-- ==== Sys2Proof/Word.lean ====
section
/-! DEFINITION. The words of the part: telegram and image words, bytes, sequence numbers. -/

namespace Sys2Proof

/-- A payload or image word: 16 bits, numbered 15 down to 0 (spec/12, opening). -/
abbrev Word := BitVec 16

/-- A byte of the configuration memory, or the flags byte of a telegram. -/
abbrev Byte := BitVec 8

/-- A telegram sequence number: 0 to 15, after 15 comes 0, compared only for equality (spec/00, Sequence numbers). -/
abbrev SeqNo := BitVec 4

/-- A plan number: 0 to 65535, wrapping the same way (spec/00, Sequence numbers). -/
abbrev PlanNo := BitVec 16

end Sys2Proof
end

