-- ==== Sys2Proof/Syntax.lean ====
section
/-! DEFINITION. The commands of the Q46: one constructor for each row of spec/opcode_table.json, with the operands its rule needs. -/

namespace Sys2Proof

/-- The four setpoint channels (R113), in the order ENG, MGA, MGB, FRIC. -/
inductive Chan where
  | eng | mga | mgb | fric
  deriving DecidableEq, Repr

/-- The nine consumed kinds, in the order of R96. -/
inductive Kind where
  | demand | battery | engine | mgaEcho | mgbEcho | brake | gearbox | zone | derate
  deriving DecidableEq, Repr

/-- The two fault kinds that carry a removal time (R98, R99). -/
inductive TimedFault where
  | sourceMismatch | lengthError
  deriving DecidableEq, Repr

/-- What the read of the configuration memory gave when it ended (R174): no acknowledge, or the bytes read from byte address 0 on (R186). -/
inductive ImageRead where
  | noAck
  | bytes (bs : List Byte)
  deriving DecidableEq, Repr

/-- The commands. -/
inductive Instr where
  /-- POWER_ON (R177). -/
  | powerOn
  /-- RESET_ASSERTED (R177). -/
  | resetAsserted
  /-- RESET_RELEASED (R177). -/
  | resetReleased
  /-- LOAD_COMPLETE (R174): the image read ends with this result. -/
  | loadComplete (r : ImageRead)
  /-- LOAD_TIMEOUT (R174). -/
  | loadTimeout
  /-- IGN_RELEASED (R178). -/
  | ignReleased
  /-- IGN_ASSERTED (R178, R179). -/
  | ignAsserted
  /-- WINDING_DOWN_TIMEOUT (R178). -/
  | windingDownTimeout
  /-- SHUTDOWN_ASSERTED (R128). -/
  | shutdownAsserted
  /-- SHUTDOWN_RELEASED (R129). -/
  | shutdownReleased
  /-- RELEASE_EDGE (R88): the filtered level of RELEASE becomes this one (true: asserted). -/
  | releaseEdge (asserted : Bool)
  /-- TELEGRAM_RECEIVED (R158): the levels on the bus bit by bit, from the start bit to the end (false: dominant, a 0 bit; true: recessive, a 1 bit). -/
  | telegramReceived (bits : List Bool)
  /-- CYCLE_TIMER_EXPIRY (R80). -/
  | cycleTimerExpiry
  /-- COMPUTATION_COMPLETE (R85). -/
  | computationComplete
  /-- ATTEMPT_START (R162). -/
  | attemptStart
  /-- CONTENTION_LOSS (R154). -/
  | contentionLoss
  /-- TRANSMIT_ERROR (R155). -/
  | transmitError
  /-- SILENT_TIMER_EXPIRY (R156). -/
  | silentTimerExpiry
  /-- COMPLETE_SEND (R157). -/
  | completeSend
  /-- ECHO_DEADLINE_EXPIRY (R121) on one channel. -/
  | echoDeadlineExpiry (c : Chan)
  /-- ACK_TIMER_EXPIRY (R139). -/
  | ackTimerExpiry
  /-- START_TIMER_EXPIRY (R141). -/
  | startTimerExpiry
  /-- STOP_TIMER_EXPIRY (R146). -/
  | stopTimerExpiry
  /-- INHIBIT_HOLD_EXPIRY (R144). -/
  | inhibitHoldExpiry
  /-- SLOT_HELD (R105) for one kind. -/
  | slotHeld (k : Kind)
  /-- SLOT_STALE (R105, R107) for one kind. -/
  | slotStale (k : Kind)
  /-- FAULT_REMOVAL_TIME (R98, R99) of one fault kind for one topic. -/
  | faultRemovalTime (f : TimedFault) (topic : Nat)
  deriving DecidableEq, Repr

end Sys2Proof
end

