-- ==== Sys2Proof/Decode.lean ====
section
/-! DEFINITION. The command a word spells by the bits of spec/opcode_table.json. No row of the table gives bits ("fields" is empty in all 27 rows and none has "fixed"), so no word spells a command. -/

namespace Sys2Proof

/-- The command whose table bits are `w`: none, for the table gives no row any bits. -/
def decodeTableWord (_nbits _w : Nat) : Option Instr := none

end Sys2Proof
end

