-- ==== Sys2Proof/Config.lean ====
section
/-! DEFINITION. The configuration image's fields as they are in force (R114, R174, R186), and the one free choice of the model. -/

namespace Sys2Proof

/-- One value for each channel. -/
structure PerChan (α : Type) where
  eng : α
  mga : α
  mgb : α
  fric : α
  deriving DecidableEq, Repr

/-- The value of one channel. -/
def PerChan.get {α : Type} (t : PerChan α) : Chan → α
  | .eng => t.eng
  | .mga => t.mga
  | .mgb => t.mgb
  | .fric => t.fric

/-- The table with one channel's value replaced. -/
def PerChan.set {α : Type} (t : PerChan α) (c : Chan) (x : α) : PerChan α :=
  match c with
  | .eng => ⟨x, t.mga, t.mgb, t.fric⟩
  | .mga => ⟨t.eng, x, t.mgb, t.fric⟩
  | .mgb => ⟨t.eng, t.mga, x, t.fric⟩
  | .fric => ⟨t.eng, t.mga, t.mgb, x⟩

/-- The same value for every channel. -/
def PerChan.const {α : Type} (x : α) : PerChan α := ⟨x, x, x, x⟩

/-- One value for each consumed kind. -/
structure PerKind (α : Type) where
  demand : α
  battery : α
  engine : α
  mgaEcho : α
  mgbEcho : α
  brake : α
  gearbox : α
  zone : α
  derate : α
  deriving DecidableEq, Repr

/-- The value of one kind. -/
def PerKind.get {α : Type} (t : PerKind α) : Kind → α
  | .demand => t.demand
  | .battery => t.battery
  | .engine => t.engine
  | .mgaEcho => t.mgaEcho
  | .mgbEcho => t.mgbEcho
  | .brake => t.brake
  | .gearbox => t.gearbox
  | .zone => t.zone
  | .derate => t.derate

/-- Bit rate of the driveline bus: 250 or 500 kbit/s (R150). -/
inductive BitRate where
  | k250 | k500
  deriving DecidableEq, Repr

/-- Channel mode (R91, R114). -/
inductive ChanMode where
  | grouped | solo
  deriving DecidableEq, Repr

/-- Release source (R87). -/
inductive ReleaseSource where
  | plan | line
  deriving DecidableEq, Repr

/-- Release edge (R87). -/
inductive ReleaseEdge where
  | rising | falling | both
  deriving DecidableEq, Repr

/-- The configuration in force: one field for each content of the image map (R186). Torques in Nm, powers in 100 W, speeds in rpm, times in ms, charge and efficiency in permille. -/
structure Cfg where
  station : Nat
  bitRate : BitRate
  topic : PerKind Nat
  source : PerKind Nat
  outTopic : PerChan Nat
  statusTopic : Nat
  wakeTopic : Nat
  fresh : PerKind Nat
  hold : PerKind Nat
  chanMode : PerChan ChanMode
  shutEnable : PerChan Bool
  releaseSource : ReleaseSource
  releaseEdge : ReleaseEdge
  echoTimeout : Nat
  nRetry : Nat
  tCycleMax : Nat
  blendStep : Nat
  sLow : Nat
  sHigh : Nat
  wLo : Nat
  wMid : Nat
  wHi : Nat
  nStart : Nat
  nStop : Nat
  pEv : Nat
  pEvStop : Nat
  tg : Nat
  etaA : Nat
  etaB : Nat
  capE : Nat
  capA : Nat
  capB : Nat
  capC : Nat
  capD : Nat
  vCap : Nat
  nCap : Nat
  dCeiling : Nat
  startTimeout : Nat
  deriving DecidableEq, Repr

/-- The model's free choice (log entry 5): where a rule says "either may be first", the n-th choice made since power-on. It has no body, so no proof can rest on a value of it. -/
opaque Config.freeChoice : Nat → Nat

end Sys2Proof
end

