-- ==== Sys2Proof/Machine/Defaults.lean ====
section
/-! DEFINITION. The default configuration (R106, R114, R174, R186). -/

namespace Sys2Proof.Machine

/-- The defaults of the image map (R186, with the limits of R106). -/
def defaultCfg : Cfg where
  station := 6
  bitRate := .k500
  topic := ⟨40, 52, 60, 61, 62, 70, 80, 90, 96⟩
  source := ⟨31, 31, 31, 31, 31, 31, 31, 31, 31⟩
  outTopic := ⟨100, 101, 102, 103⟩
  statusTopic := 112
  wakeTopic := 40
  fresh := ⟨30, 100, 50, 30, 30, 30, 50, 1000, 500⟩
  hold := ⟨60, 300, 150, 60, 60, 90, 150, 5000, 2000⟩
  chanMode := .const .grouped
  shutEnable := .const false
  releaseSource := .plan
  releaseEdge := .rising
  echoTimeout := 30
  nRetry := 3
  tCycleMax := 25
  blendStep := 4
  sLow := 400
  sHigh := 700
  wLo := 28
  wMid := 20
  wHi := 12
  nStart := 3
  nStop := 10
  pEv := 250
  pEvStop := 150
  tg := 120
  etaA := 900
  etaB := 920
  capE := 300
  capA := 150
  capB := 2000
  capC := 400
  capD := 600
  vCap := 1500
  nCap := 6500
  dCeiling := 4500
  startTimeout := 1500

end Sys2Proof.Machine
end

