-- ==== Sys2Proof/Machine/State.lean ====
section
/-! DEFINITION. The state of the part, block by block, as plain data, and its reset value. -/

namespace Sys2Proof.Machine

/-! ### Codes -/

/-- Battery state (R100, R182). -/
inductive BatteryState where
  | normal | fault
  deriving DecidableEq, Repr

/-- Engine state as the engine controller publishes it (R100, R182). -/
inductive EngineState where
  | off | cranking | running | stopping | fault | inhibit
  deriving DecidableEq, Repr

/-- Gear code (R100, R182). UNKNOWN is `none` in a confirmation record (R109). -/
inductive Gear where
  | park | reverse | neutral | drive
  deriving DecidableEq, Repr

/-- Zone code OPEN (`unrestricted`), LOW_EMISSION or ZERO_EMISSION (R100, R182). UNKNOWN is `none` in a confirmation record (R109). -/
inductive Zone where
  | unrestricted | lowEmission | zeroEmission
  deriving DecidableEq, Repr

/-- Echo status (R100, R182). -/
inductive EchoStatus where
  | applied | clamped | refused
  deriving DecidableEq, Repr

/-- Request field of the ENG telegram (R116, R136, R182). -/
inductive Request where
  | none | start | stop
  deriving DecidableEq, Repr

/-- The six operating modes (R37, R182). -/
inductive Mode where
  | safe | ev | hybrid | series | handback | engineOnly
  deriving DecidableEq, Repr

/-- The nine negotiator states (R135, R182). -/
inductive NegState where
  | unknown | stopped | startPending | cranking | running | withdrawing | stopPending | inhibited | lockedOut
  deriving DecidableEq, Repr

/-- Reset cause (R180, R182). -/
inductive ResetCause where
  | powerOn | resetLine | wake
  deriving DecidableEq, Repr

/-- Part state (R177). -/
inductive PartState where
  | loading | ready | windingDown | sleep
  deriving DecidableEq, Repr

/-- Trigger of a computation (R76, R79, R80). -/
inductive Trigger where
  | demand | timer
  deriving DecidableEq, Repr

/-- Handshake state of a channel (R113). -/
inductive Handshake where
  | idle | active | recovery | lost
  deriving DecidableEq, Repr

/-- Link state (R150). -/
inductive Link where
  | active | silent
  deriving DecidableEq, Repr

/-- The two electric machines; the only subjects of CONFLICT (spec/10, fault kinds). -/
inductive MachineId where
  | mga | mgb
  deriving DecidableEq, Repr

/-! ### Windows and the five quantities (R18, R20) -/

/-- A window; an absent side is open (R20). -/
structure Window where
  lo : Option Int
  hi : Option Int
  deriving DecidableEq, Repr

/-- One value for each windowed quantity (R18). -/
structure PerQ (α : Type) where
  eng : α
  mga : α
  mgb : α
  batt : α
  regen : α
  deriving DecidableEq, Repr

/-! ### Slots (R100, R104, R105) -/

/-- The echo word of a telegram (R183). -/
structure EchoWord where
  seq : SeqNo
  status : EchoStatus
  deriving DecidableEq, Repr

/-- Fields of BATTERY; an absent bound is the open key. -/
structure BatteryFields where
  dis : Option Int
  chg : Option Int
  soc : Int
  state : BatteryState
  deriving DecidableEq, Repr

/-- Fields of ENGINE. -/
structure EngineFields where
  state : EngineState
  teMax : Option Int
  crankSpeed : Int
  echo : EchoWord
  applied : Int
  deriving DecidableEq, Repr

/-- Fields of MGA_ECHO and of MGB_ECHO. -/
structure MachineFields where
  wmin : Option Int
  wmax : Option Int
  applied : Int
  echo : EchoWord
  deriving DecidableEq, Repr

/-- Fields of BRAKE. -/
structure BrakeFields where
  rb : Option Int
  axleSpeed : Int
  friction : Int
  echo : EchoWord
  deriving DecidableEq, Repr

/-- Fields of GEARBOX. -/
structure GearboxFields where
  ratio : Int
  gear : Gear
  deriving DecidableEq, Repr

/-- Fields of DERATE. -/
structure DerateFields where
  dB : Int
  dBat : Int
  deriving DecidableEq, Repr

/-- Freshness of a slot that has accepted a telegram (R105). -/
inductive Freshness where
  | fresh | held | stale
  deriving DecidableEq, Repr

/-- A slot: NEVER, or its latest acceptance time, its freshness state and its latest fields (R104, R105). -/
inductive Slot (α : Type) where
  | never
  | received (time : Nat) (state : Freshness) (fields : α)
  deriving DecidableEq, Repr

/-- The nine slots (R104). -/
structure Slots where
  demand : Slot Int
  battery : Slot BatteryFields
  engine : Slot EngineFields
  mgaEcho : Slot MachineFields
  mgbEcho : Slot MachineFields
  brake : Slot BrakeFields
  gearbox : Slot GearboxFields
  zone : Slot Zone
  derate : Slot DerateFields
  deriving DecidableEq, Repr

/-! ### Topic Intake (R95, R109, R110, R98, R99) -/

/-- A consumed entry's part of the topic table (R95). -/
structure Consumed where
  kind : Kind
  source : Nat
  fresh : Nat
  hold : Nat
  chan : Option Chan
  deriving DecidableEq, Repr

/-- A topic table entry: consumed, the wake entry, or both (R95). -/
structure TopicEntry where
  topic : Nat
  consumed : Option Consumed
  wake : Bool
  deriving DecidableEq, Repr

/-- A two-look confirmation record (R109); a confirmed `none` is UNKNOWN. -/
structure TwoLook (α : Type) where
  confirmed : Option α
  candidate : Option α
  deriving DecidableEq, Repr

/-- The INHIBIT record (R110). -/
inductive InhibitRecord where
  | clear | candidate | confirmed
  deriving DecidableEq, Repr

/-- The removal time of a timed fault for a topic (R98, R99). -/
structure Removal where
  fault : TimedFault
  topic : Nat
  time : Nat
  deriving DecidableEq, Repr

/-- Topic Intake. -/
structure Intake where
  table : List TopicEntry
  slots : Slots
  gear : TwoLook Gear
  zone : TwoLook Zone
  inhibit : InhibitRecord
  removals : List Removal
  deriving DecidableEq, Repr

/-! ### Envelope Builder (R31, R32) -/

/-- A one-shot override: the matched echo's status and applied value, and the commanded value of the entry it matched (R31). -/
structure Override where
  status : EchoStatus
  applied : Int
  commanded : Int
  deriving DecidableEq, Repr

/-- The pending one-shot overrides, at most one for each quantity (R32). -/
structure Overrides where
  eng : Option Override
  mga : Option Override
  mgb : Option Override
  deriving DecidableEq, Repr

/-! ### Mode Selector (R35, R47) -/

/-- The blend record (R47). -/
structure Blend where
  active : Bool
  origin : Int
  factor : Nat
  deriving DecidableEq, Repr

/-- The Mode Selector's committed state (R35). -/
structure ModeSel where
  mode : Mode
  lastEng : Int
  startCount : Nat
  stopCount : Nat
  blend : Blend
  startWanted : Bool
  stopWanted : Bool
  handback : Bool
  deriving DecidableEq, Repr

/-! ### A computation (R1, R18, R83) -/

/-- The snapshot of a computation (R83). Each slot's freshness is the one judged at the start. -/
structure Snapshot where
  slots : Slots
  gear : Option Gear
  zone : Option Zone
  overrides : Overrides
  handshake : PerChan Handshake
  shut : PerChan Bool
  neg : NegState
  part : PartState
  ms : ModeSel
  deriving DecidableEq, Repr

/-- The working values of R1, and whether the demand clamp changed D (R9). -/
structure Working where
  g : Int
  v : Int
  nc : Int
  dc : Int
  pdem : Int
  clipped : Bool
  deriving DecidableEq, Repr

/-- The six layer windows of one quantity (R18). -/
structure Layers where
  safety : Window
  machine : Window
  battery : Window
  brake : Window
  derate : Window
  calibration : Window
  deriving DecidableEq, Repr

/-- The envelope of a computation (R18). -/
structure Envelope where
  layers : PerQ Layers
  final : PerQ Window
  mark : PerQ Bool
  deriving DecidableEq, Repr

/-- What the Mode Selector decides at a computation's start (R35 to R50). -/
structure Selection where
  mode : Mode
  startCount : Nat
  stopCount : Nat
  startWanted : Bool
  stopWanted : Bool
  weight : Nat
  blend : Blend
  deriving DecidableEq, Repr

/-- The computation in flight: its start time, snapshot, working values, envelope and selection. -/
structure Computation where
  startedAt : Nat
  snap : Snapshot
  work : Working
  env : Envelope
  sel : Selection
  deriving DecidableEq, Repr

/-! ### Plans (R76) -/

/-- The plan flags, in the order of R185. -/
structure PlanFlags where
  demandClipped : Bool
  shortfall : Bool
  excess : Bool
  powerLimited : Bool
  regenLimited : Bool
  blending : Bool
  conflict : Bool
  planDropped : Bool
  overrun : Bool
  timerStart : Bool
  deriving DecidableEq, Repr

/-- A plan record (R76), but for its state, which is that of the buffer that holds it. -/
structure Plan where
  number : PlanNo
  trigger : Trigger
  mode : Mode
  dc : Int
  eng : Int
  mga : Int
  mgb : Int
  engAxle : Int
  mgaAxle : Int
  friction : Int
  shortfall : Int
  power : Int
  windows : PerQ Window
  marks : PerQ Bool
  flags : PlanFlags
  deriving DecidableEq, Repr

/-- The back plan and its state EMPTY, COMPUTING or COMPLETE (R78). -/
inductive BackPlan where
  | empty
  | computing (p : Plan)
  | complete (p : Plan)
  deriving DecidableEq, Repr

/-- The Cycle Scheduler (R78). The in-flight mark is true when `inflight` holds a computation. -/
structure Sched where
  inflight : Option Computation
  timer : Option Nat
  pendingStart : Option Trigger
  overrun : Bool
  lastSeq : Option SeqNo
  nextPlan : PlanNo
  back : BackPlan
  front : Option Plan
  lastRelease : Bool
  deriving DecidableEq, Repr

/-! ### Channels (R113) -/

/-- An entry of an unanswered-send list: sequence number, commanded value, sent time (R113). -/
structure Sent where
  seq : SeqNo
  value : Int
  time : Nat
  deriving DecidableEq, Repr

/-- A setpoint channel (R113). The list is oldest first. -/
structure Channel where
  hs : Handshake
  shut : Bool
  list : List Sent
  deadline : Option Nat
  retry : Nat
  readm : Nat
  deriving DecidableEq, Repr

/-! ### Engine Negotiator (R135) -/

/-- The Engine Negotiator (R135). A stopped timer is `none`. -/
structure Neg where
  state : NegState
  observed : Option EngineState
  withdrawals : Nat
  failed : Nat
  ack : Option Nat
  start : Option Nat
  stop : Option Nat
  hold : Option Nat
  deriving DecidableEq, Repr

/-! ### Fault Monitor (R166) -/

/-- A fault, named by its kind and its subject (spec/10, fault kinds). -/
inductive FaultId where
  | stale (k : Kind)
  | windowInverted (topic : Nat)
  | sourceMismatch (topic : Nat)
  | lengthError (topic : Nat)
  | channelRecovery (c : Chan)
  | channelLost (c : Chan)
  | conflict (m : MachineId)
  | startFailed
  | engineLockedOut
  | engineInhibited
  | engineStall
  | stopLate
  | cadenceLost
  | linkSilent
  | stationClash
  | configDefault
  | configClamped (word : Nat)
  | configConflict
  deriving DecidableEq, Repr

/-- A fault list entry (R166). -/
structure FaultEntry where
  id : FaultId
  raisedAt : Nat
  count : Nat
  deriving DecidableEq, Repr

/-- The Fault Monitor (R166). -/
structure FaultMon where
  list : List FaultEntry
  overflow : Bool
  rotation : Nat
  degrading : List FaultId
  deriving DecidableEq, Repr

/-! ### Bus Interface (R150) -/

/-- A setpoint telegram as a channel builds it (R116). Only ENG's carries the request on the bus (R185). -/
structure Setpoint where
  value : Int
  poll : Bool
  request : Request
  deriving DecidableEq, Repr

/-- A STATUS telegram as it is built (R170); an absent fault entry is the no-fault code. -/
structure StatusTelegram where
  mode : Mode
  neg : NegState
  planNumber : PlanNo
  flags : PlanFlags
  shortfall : Int
  friction : Int
  power : Int
  faultCount : Nat
  overflow : Bool
  entry : Option FaultEntry
  cause : ResetCause
  deriving DecidableEq, Repr

/-- A telegram of one of the five outgoing kinds (R160). -/
inductive Outgoing where
  | setpoint (c : Chan) (sp : Setpoint)
  | status (st : StatusTelegram)
  deriving DecidableEq, Repr

/-- An attempt: the telegram, the sequence number written for it, and its bits with their check (R162). -/
structure Attempt where
  telegram : Outgoing
  seq : SeqNo
  bits : List Bool
  deriving DecidableEq, Repr

/-- The Bus Interface (R150). -/
structure Bus where
  queue : PerChan (Option Setpoint)
  statusQ : Option StatusTelegram
  tx : Option Attempt
  errors : Nat
  link : Link
  silentTimer : Option Nat
  seqs : PerChan SeqNo
  statusSeq : SeqNo
  deriving DecidableEq, Repr

/-! ### Start-up Control and pins -/

/-- The load of the configuration: none under way, held by RESET with the load not begun, or reading since a time (R174, R177). -/
inductive Load where
  | idle
  | held
  | reading (since : Nat)
  deriving DecidableEq, Repr

/-- The load result (R174), CLAMPED with the word of the first clamped field (R175). -/
inductive LoadResult where
  | good
  | clamped (word : Nat)
  | default
  deriving DecidableEq, Repr

/-- Start-up Control (R174, R177, R178, R180). -/
structure Startup where
  part : PartState
  load : Load
  result : LoadResult
  conflict : Bool
  windTimer : Option Nat
  zeroRelease : Bool
  cause : ResetCause
  deriving DecidableEq, Repr

/-- The filtered levels of the four input lines; true is asserted. -/
structure Pins where
  ign : Bool
  shutdown : Bool
  release : Bool
  reset : Bool
  deriving DecidableEq, Repr

/-! ### The state -/

/-- The whole part, and the queue of commands that wait, first in, first out. -/
structure State where
  now : Nat
  pins : Pins
  cfg : Cfg
  su : Startup
  bi : Bus
  ti : Intake
  cs : Sched
  eb : Overrides
  ms : ModeSel
  cu : PerChan Channel
  en : Neg
  fm : FaultMon
  free : Nat
  pending : List Instr
  deriving DecidableEq, Repr

/-- Why a step could stop with a fault: it never does. Every rule of the spec gives its command an effect, so no meaning raises a fault (the Q46's own faults are state, `FaultMon`); having none is safe. -/
inductive Fault where
  deriving DecidableEq, Repr

/-- Why a step could be refused. -/
inductive Refusal where
  /-- Raised by `exec` for a command with no meaning yet; safe. No arm raises it now. -/
  | notModelled (mnemonic : String)
  deriving DecidableEq, Repr

/-! ### Reset values of the blocks -/

/-- All slots NEVER with their fields empty (R107). -/
def Slots.reset : Slots := ⟨.never, .never, .never, .never, .never, .never, .never, .never, .never⟩

/-- Topic Intake after a reset (R107, R109, R110), with the topic table given: a wake keeps it (R96). -/
def Intake.reset (table : List TopicEntry) : Intake where
  table := table
  slots := .reset
  gear := ⟨none, none⟩
  zone := ⟨none, none⟩
  inhibit := .clear
  removals := []

/-- No pending override (R33). -/
def Overrides.empty : Overrides := ⟨none, none, none⟩

/-- An inactive blend record (R47). -/
def Blend.inactive : Blend := ⟨false, 0, 0⟩

/-- The Mode Selector after a reset (R35). -/
def ModeSel.reset : ModeSel := ⟨.safe, 0, 0, 0, .inactive, false, false, false⟩

/-- The Cycle Scheduler after a reset (R78); the last level of RELEASE, which R78 does not list, is given. -/
def Sched.reset (lastRelease : Bool) : Sched where
  inflight := none
  timer := none
  pendingStart := none
  overrun := false
  lastSeq := none
  nextPlan := 0
  back := .empty
  front := none
  lastRelease := lastRelease

/-- A channel after a reset (R113), its shut flag clear as in LOADING (R130). -/
def Channel.reset : Channel := ⟨.idle, false, [], none, 0, 0⟩

/-- The Engine Negotiator after a reset (R135). -/
def Neg.reset : Neg := ⟨.unknown, none, 0, 0, none, none, none, none⟩

/-- The Fault Monitor after a reset (R166). -/
def FaultMon.reset : FaultMon := ⟨[], false, 0, []⟩

/-- The Bus Interface after a reset (R150). -/
def Bus.reset : Bus where
  queue := .const none
  statusQ := none
  tx := none
  errors := 0
  link := .active
  silentTimer := none
  seqs := .const 0
  statusSeq := 0

/-- The part right after a power-on with all four lines released: LOADING, the load begun (R177), every block at its power-on values. The time base, the lines' levels, what `cfg`, the load result and the table hold in LOADING, and the last RELEASE level are DESIGN CHOICES (log entries 3, 4, 6). -/
def State.reset : State where
  now := 0
  pins := ⟨false, false, false, false⟩
  cfg := defaultCfg
  su := ⟨.loading, .reading 0, .good, false, none, false, .powerOn⟩
  bi := .reset
  ti := .reset []
  cs := .reset false
  eb := .empty
  ms := .reset
  cu := .const .reset
  en := .reset
  fm := .reset
  free := 0
  pending := []

end Sys2Proof.Machine
end

