-- ==== Sys2Proof/Machine/Arith.lean ====
section
/-! DEFINITION. Quantities and conversions (spec/01): exact whole-number formulas with their one named rounding (R2). -/

namespace Sys2Proof.Machine

/-- Rounding toward zero of `a / b` (spec/00, Rounding). -/
def trunc (a b : Int) : Int := Int.tdiv a b

/-- Rounding toward minus infinity of `a / b`, for `b` above 0. -/
def floorDiv (a b : Int) : Int := Int.fdiv a b

/-- Rounding toward plus infinity of `a / b`, for `b` above 0. -/
def ceilDiv (a b : Int) : Int := -(Int.fdiv (-a) b)

/-- "Clamped into [lo, hi]": raised to `lo` if below it, lowered to `hi` if above it (spec/00, Windows). -/
def clampInt (lo hi x : Int) : Int := if x < lo then lo else if hi < x then hi else x

/-- The same for whole numbers that are never negative. -/
def clampNat (lo hi x : Nat) : Nat := if x < lo then lo else if hi < x then hi else x

/-! ### Windows and ranges -/

/-- The window with both sides open. -/
def Window.unbounded : Window := ⟨none, none⟩

/-- The window [0, 0]. -/
def Window.zero : Window := ⟨some 0, some 0⟩

/-- The window [lo, hi]. -/
def Window.closed (lo hi : Int) : Window := ⟨some lo, some hi⟩

/-- The larger of two lower ends; an open one gives no bound. -/
def maxLo : Option Int → Option Int → Option Int
  | none, b => b
  | a, none => a
  | some a, some b => some (max a b)

/-- The smaller of two upper ends; an open one gives no bound. -/
def minHi : Option Int → Option Int → Option Int
  | none, b => b
  | a, none => a
  | some a, some b => some (min a b)

/-- Where two windows meet. -/
def Window.meet (a b : Window) : Window := ⟨maxLo a.lo b.lo, minHi a.hi b.hi⟩

/-- A window is empty when both sides are numbers and the lower exceeds the upper. -/
def Window.isEmpty (w : Window) : Bool :=
  match w.lo, w.hi with
  | some l, some h => decide (h < l)
  | _, _ => false

/-- A value lies within a window, both ends included. -/
def Window.has (w : Window) (x : Int) : Bool :=
  (match w.lo with | some l => decide (l ≤ x) | none => true) &&
  (match w.hi with | some h => decide (x ≤ h) | none => true)

/-- A value clamped into a window; an open side clamps nothing. -/
def Window.clamp (w : Window) (x : Int) : Int :=
  let y := match w.lo with | some l => max l x | none => x
  match w.hi with | some h => min h y | none => y

/-! ### Conversions -/

/-- R10: demand power. -/
def demandPower (dc v : Int) : Int := trunc (dc * v) 955

/-- R11: axle contribution of crank torque `c` at ratio `g`. -/
def axleOf (c g : Int) : Int := trunc (c * g) 100

/-- R12: crank equivalent of axle torque `x` at ratio `g` above 0. -/
def crankOf (x g : Int) : Int := trunc (x * 100) g

/-- R13: electrical power of a machine with torque `t` at speed `n` and efficiency `η`. -/
def elecPower (t n η : Int) : Int :=
  if t = 0 ∨ n = 0 then 0
  else if 0 < t then ceilDiv (t * n * 1000) (955 * η)
  else -(ceilDiv (-t * n * η) 955000)

/-- R15: the upper end of the torque range, from the upper end of the allowance, at speed `n` above 0. -/
def torqueMax (eHi n η : Int) : Int :=
  if 0 ≤ eHi then floorDiv (eHi * 955 * η) (1000 * n)
  else -(ceilDiv (-eHi * 955000) (n * η))

/-- R15: the lower end of the torque range, from the lower end of the allowance, at speed `n` above 0. -/
def torqueMin (eLo n η : Int) : Int :=
  if eLo ≤ 0 then -(floorDiv (-eLo * 955000) (n * η))
  else ceilDiv (eLo * 955 * η) (1000 * n)

/-- R15, R16: the torque range of the allowance [eLo, eHi]; open on both sides at speed 0, and empty when its lower end exceeds its upper. -/
def torqueRange (eLo eHi n η : Int) : Window :=
  if n = 0 then .unbounded else .closed (torqueMin eLo n η) (torqueMax eHi n η)

end Sys2Proof.Machine
end

