-- ==== Sys2Proof/Machine/Envelope.lean ====
section
/-! DEFINITION. The limit envelope (spec/02): layer windows, one-shot overrides, combination and conflicts. -/

namespace Sys2Proof.Machine

/-- The fields of a slot whose state is FRESH or HELD; none of a NEVER or STALE slot's are read (R108). -/
def Slot.live {α : Type} : Slot α → Option α
  | .never => none
  | .received _ .fresh x => some x
  | .received _ .held x => some x
  | .received _ .stale _ => none

/-- R21: SAFETY window of a quantity whose channel had this handshake state and shut flag in the snapshot. -/
def safetyWindow (hs : Handshake) (shut : Bool) : Window :=
  if hs = .lost ∨ shut = true then .zero else .unbounded

/-- R22: MACHINE window of ENG before any override. -/
def engMachineWindow (s : Slot EngineFields) : Window :=
  match s.live with
  | some f => if f.state = .running then ⟨some 0, f.teMax⟩ else .zero
  | none => .zero

/-- R23: MACHINE window of MGA or MGB before any override. -/
def machineWindow (s : Slot MachineFields) : Window :=
  match s.live with
  | some f => ⟨f.wmin, f.wmax⟩
  | none => .zero

/-- R34, lowering: the upper end moves to the smaller of itself and `a`, but not below the lower end. -/
def Window.lower (w : Window) (a : Int) : Window :=
  let h := match w.hi with | some h => min h a | none => a
  ⟨w.lo, some (match w.lo with | some l => max l h | none => h)⟩

/-- R34, raising: the lower end moves to the larger of itself and `a`, but not above the upper end. -/
def Window.raise (w : Window) (a : Int) : Window :=
  let l := match w.lo with | some l => max l a | none => a
  ⟨some (match w.hi with | some h => min h l | none => l), w.hi⟩

/-- R34 for MGA and MGB: an override applied to the MACHINE window. -/
def overrideMachine (o : Option Override) (w : Window) : Window :=
  match o with
  | none => w
  | some o =>
    match o.status with
    | .refused => .zero
    | .clamped => if o.applied < o.commanded then w.lower o.applied else if o.commanded < o.applied then w.raise o.applied else w
    | .applied => w

/-- R34 for ENG: as for a machine, but a raising override changes nothing. -/
def overrideEng (o : Option Override) (w : Window) : Window :=
  match o with
  | none => w
  | some o =>
    match o.status with
    | .refused => .zero
    | .clamped => if o.applied < o.commanded then w.lower o.applied else w
    | .applied => w

/-- R24: BATTERY window of BATT. -/
def batteryWindow (s : Slot BatteryFields) : Window :=
  match s.live with
  | some f =>
    match f.state with
    | .normal => ⟨f.chg.map (fun c => -c), f.dis⟩
    | .fault => .zero
  | none => .zero

/-- R25: BRAKE window of REGEN. -/
def brakeWindow (s : Slot BrakeFields) : Window :=
  match s.live with
  | some f => ⟨f.rb.map (fun r => -r), none⟩
  | none => ⟨some 0, none⟩

/-- R26: DERATE window of MGB. -/
def derateMgb (cfg : Cfg) (s : Slot DerateFields) : Window :=
  match s.live with
  | some f => .closed (-(trunc (cfg.capB * f.dB) 1000)) (trunc (cfg.capB * f.dB) 1000)
  | none => .unbounded

/-- R26: DERATE window of BATT. -/
def derateBatt (cfg : Cfg) (s : Slot DerateFields) : Window :=
  match s.live with
  | some f => .closed (-(trunc (cfg.capC * f.dBat) 1000)) (trunc (cfg.capD * f.dBat) 1000)
  | none => .unbounded

/-- The layer windows of ENG (R21, R22, R34, R27). -/
def engLayers (cfg : Cfg) (sn : Snapshot) : Layers where
  safety := safetyWindow sn.handshake.eng sn.shut.eng
  machine := overrideEng sn.overrides.eng (engMachineWindow sn.slots.engine)
  battery := .unbounded
  brake := .unbounded
  derate := .unbounded
  calibration := .closed 0 cfg.capE

/-- The layer windows of MGA (R21, R23, R34, R27). -/
def mgaLayers (cfg : Cfg) (sn : Snapshot) : Layers where
  safety := safetyWindow sn.handshake.mga sn.shut.mga
  machine := overrideMachine sn.overrides.mga (machineWindow sn.slots.mgaEcho)
  battery := .unbounded
  brake := .unbounded
  derate := .unbounded
  calibration := .closed (-cfg.capA) cfg.capA

/-- The layer windows of MGB (R21, R23, R34, R26, R27). -/
def mgbLayers (cfg : Cfg) (sn : Snapshot) : Layers where
  safety := safetyWindow sn.handshake.mgb sn.shut.mgb
  machine := overrideMachine sn.overrides.mgb (machineWindow sn.slots.mgbEcho)
  battery := .unbounded
  brake := .unbounded
  derate := derateMgb cfg sn.slots.derate
  calibration := .closed (-cfg.capB) cfg.capB

/-- The layer windows of BATT (R24, R26, R27). -/
def battLayers (cfg : Cfg) (sn : Snapshot) : Layers where
  safety := .unbounded
  machine := .unbounded
  battery := batteryWindow sn.slots.battery
  brake := .unbounded
  derate := derateBatt cfg sn.slots.derate
  calibration := .closed (-cfg.capC) cfg.capD

/-- The layer windows of REGEN (R25, R27). -/
def regenLayers (_cfg : Cfg) (sn : Snapshot) : Layers where
  safety := .unbounded
  machine := .unbounded
  battery := .unbounded
  brake := brakeWindow sn.slots.brake
  derate := .unbounded
  calibration := ⟨some (-4000), none⟩

/-- One layer's step on the working window (R28), and its conflict, if it has one, settled (R29). -/
def combineStep (acc : Window × Bool) (layer : Window) : Window × Bool :=
  let w := acc.1.meet layer
  if w.isEmpty then (⟨layer.lo.orElse (fun _ => layer.hi), layer.hi.orElse (fun _ => layer.lo)⟩, true)
  else (w, acc.2)

/-- R28: the final window and the conflict mark of a quantity, from CALIBRATION up through DERATE, BRAKE, BATTERY, MACHINE and SAFETY. -/
def Layers.combine (l : Layers) : Window × Bool :=
  [l.derate, l.brake, l.battery, l.machine, l.safety].foldl combineStep (l.calibration, false)

/-- The envelope of a computation (R18). -/
def buildEnvelope (cfg : Cfg) (sn : Snapshot) : Envelope :=
  let ls : PerQ Layers := ⟨engLayers cfg sn, mgaLayers cfg sn, mgbLayers cfg sn, battLayers cfg sn, regenLayers cfg sn⟩
  { layers := ls
    final := ⟨ls.eng.combine.1, ls.mga.combine.1, ls.mgb.combine.1, ls.batt.combine.1, ls.regen.combine.1⟩
    mark := ⟨ls.eng.combine.2, ls.mga.combine.2, ls.mgb.combine.2, ls.batt.combine.2, ls.regen.combine.2⟩ }

/-- R20: a quantity is closed in a layer when that layer's window for it is exactly [0, 0]. -/
def Window.isClosed (w : Window) : Bool := w == .zero

/-- R19: the discharge allowance, the upper end of the final BATT window. -/
def Envelope.dis (e : Envelope) : Int := e.final.batt.hi.getD 0

/-- R19: the charge allowance, the magnitude of the lower end of the final BATT window. -/
def Envelope.chg (e : Envelope) : Int := (e.final.batt.lo.getD 0).natAbs

/-- R19: the regeneration allowance R, where the lower end of the final REGEN window is -R. -/
def Envelope.regen (e : Envelope) : Int := -(e.final.regen.lo.getD 0)

end Sys2Proof.Machine
end

