-- ==== Sys2Proof/Machine/Modes.lean ====
section
/-! DEFINITION. Working values of a computation (R6 to R10) and the Mode Selector (spec/03). -/

namespace Sys2Proof.Machine

/-! ### Working values -/

/-- R6: the selected ratio. -/
def selectRatio (sn : Snapshot) : Int :=
  match sn.slots.gearbox.live with
  | some f => f.ratio
  | none => 0

/-- R7: the selected axle speed. -/
def selectAxleSpeed (cfg : Cfg) (sn : Snapshot) : Int :=
  match sn.slots.brake.live with
  | some f => f.axleSpeed
  | none => cfg.vCap

/-- R8: the selected crank speed. -/
def selectCrankSpeed (cfg : Cfg) (sn : Snapshot) : Int :=
  match sn.slots.engine.live with
  | some f => f.crankSpeed
  | none => cfg.nCap

/-- R9: the clamped demand, and whether the clamp changed D (DEMAND_CLIPPED). -/
def clampDemand (cfg : Cfg) (sn : Snapshot) : Int × Bool :=
  match sn.slots.demand.live with
  | none => (0, false)
  | some d =>
    if sn.gear = some .park ∨ sn.part = .windingDown then (0, false)
    else (clampInt (-6000) cfg.dCeiling d, decide (clampInt (-6000) cfg.dCeiling d ≠ d))

/-- R1: the working values, formed once at the computation's start. -/
def workingValues (cfg : Cfg) (sn : Snapshot) : Working where
  g := selectRatio sn
  v := selectAxleSpeed cfg sn
  nc := selectCrankSpeed cfg sn
  dc := (clampDemand cfg sn).1
  pdem := demandPower (clampDemand cfg sn).1 (selectAxleSpeed cfg sn)
  clipped := (clampDemand cfg sn).2

/-! ### Conditions of R36 -/

/-- Engine running. -/
def engineRunning (sn : Snapshot) : Bool :=
  match sn.slots.engine.live with
  | some f => f.state == .running
  | none => false

/-- Engine available. -/
def engineAvailable (sn : Snapshot) : Bool :=
  match sn.slots.engine.live with
  | some f => sn.neg != .lockedOut && f.state != .fault
  | none => false

/-- Battery unavailable. -/
def batteryUnavailable (sn : Snapshot) : Bool :=
  match sn.slots.battery.live with
  | some f => f.state == .fault
  | none => true

/-- MGB closed, in the SAFETY layer or in the MACHINE layer with any override applied. -/
def mgbClosed (e : Envelope) : Bool := e.layers.mgb.safety.isClosed || e.layers.mgb.machine.isClosed

/-- Demand missing. -/
def demandMissing (sn : Snapshot) : Bool := sn.slots.demand.live.isNone

/-- Winding down. -/
def isWindingDown (sn : Snapshot) : Bool := sn.part == .windingDown

/-- SOC of the computation. -/
def stateOfCharge (sn : Snapshot) : Int :=
  match sn.slots.battery.live with
  | some f => f.soc
  | none => 0

/-- Zone of the computation, UNKNOWN counted as OPEN. -/
def zoneOf (z : Option Zone) : Zone := z.getD .unrestricted

/-- Gear of the computation, UNKNOWN counted as DRIVE. -/
def gearOf (g : Option Gear) : Gear := g.getD .drive

/-! ### Start and stop wanted -/

/-- R39: at least one of the four start triggers holds. -/
def startTrigger (cfg : Cfg) (sn : Snapshot) (e : Envelope) (pdem : Int) : Bool :=
  decide (stateOfCharge sn < cfg.sLow) || batteryUnavailable sn || mgbClosed e ||
  (decide ((cfg.pEv : Int) < pdem) && zoneOf sn.zone == .unrestricted)

/-- R39: the start condition. -/
def startCondition (cfg : Cfg) (sn : Snapshot) (e : Envelope) (pdem : Int) : Bool :=
  engineAvailable sn && zoneOf sn.zone != .zeroEmission && gearOf sn.gear != .reverse && gearOf sn.gear != .park &&
  !isWindingDown sn && startTrigger cfg sn e pdem

/-- R40: the start dwell counter after this computation's change. -/
def startCountNext (cfg : Cfg) (sn : Snapshot) (e : Envelope) (pdem : Int) : Nat :=
  if startCondition cfg sn e pdem then min 15 (sn.ms.startCount + 1) else 0

/-- R40: start wanted. -/
def startWanted (cfg : Cfg) (sn : Snapshot) (e : Envelope) (pdem : Int) : Bool :=
  startCondition cfg sn e pdem && decide (cfg.nStart ≤ startCountNext cfg sn e pdem)

/-- R41: stop wanted at once. -/
def stopAtOnce (sn : Snapshot) : Bool :=
  zoneOf sn.zone == .zeroEmission || gearOf sn.gear == .reverse || isWindingDown sn || !engineAvailable sn

/-- R42: the stop dwell condition. -/
def stopDwell (cfg : Cfg) (sn : Snapshot) (e : Envelope) (pdem : Int) : Bool :=
  decide ((cfg.sHigh : Int) ≤ stateOfCharge sn) && decide (pdem ≤ cfg.pEvStop) && !startTrigger cfg sn e pdem

/-- R42: the stop dwell counter after this computation's change. -/
def stopCountNext (cfg : Cfg) (sn : Snapshot) (e : Envelope) (pdem : Int) : Nat :=
  if stopDwell cfg sn e pdem then min 31 (sn.ms.stopCount + 1) else 0

/-- R41, R42: stop wanted. -/
def stopWanted (cfg : Cfg) (sn : Snapshot) (e : Envelope) (pdem : Int) : Bool :=
  stopAtOnce sn || (stopDwell cfg sn e pdem && decide (cfg.nStop ≤ stopCountNext cfg sn e pdem))

/-! ### Mode, weight and blend -/

/-- R37: the mode is the first line whose condition holds. -/
def chooseMode (sn : Snapshot) (e : Envelope) (g : Int) (stop : Bool) : Mode :=
  let running := engineRunning sn
  let coupled := decide (0 < g)
  if demandMissing sn || (mgbClosed e && !running) then .safe
  else if batteryUnavailable sn && running && coupled then .engineOnly
  else if running && coupled && stop then .handback
  else if running && coupled then .hybrid
  else if running && !coupled && stop then .ev
  else if running && !coupled then .series
  else .ev

/-- R46: the engine weight, by the lines of the table in their order. With S_low configured 0, no SOC lies below it, and the table gives a BATTERY slot that is NEVER or STALE, counted as SOC 0, another line than the w_lo that the rule's last part names for it. DESIGN CHOICE (log entry 18): the table decides. -/
def engineWeight (cfg : Cfg) (soc : Int) : Nat :=
  if soc < cfg.sLow then cfg.wLo else if soc < cfg.sHigh then cfg.wMid else cfg.wHi

/-- The three modes in which the blend applies. -/
def Mode.blends : Mode → Bool
  | .hybrid => true
  | .handback => true
  | .engineOnly => true
  | .safe => false
  | .ev => false
  | .series => false

/-- R48, R49, R50: the blend record of a computation, from the committed state and the mode chosen. -/
def chooseBlend (cfg : Cfg) (ms : ModeSel) (mode : Mode) : Blend :=
  if mode.blends then
    if mode = ms.mode then ms.blend
    else if mode = .handback ∧ ms.lastEng = 0 then .inactive
    else ⟨true, ms.lastEng, min 32 cfg.blendStep⟩
  else .inactive

/-- R52: the blend record after the plan completes. -/
def Blend.advance (b : Blend) (step : Nat) : Blend :=
  if b.active then
    if b.factor < 32 then ⟨true, b.origin, min 32 (b.factor + step)⟩ else .inactive
  else b

/-- R51: the pin, clamped into the final ENG window. -/
def Blend.pin (b : Blend) (target : Int) (eng : Window) : Int :=
  eng.clamp (b.origin + trunc ((target - b.origin) * b.factor) 32)

/-- The Mode Selector's decisions at a computation's start (R35). -/
def selectMode (cfg : Cfg) (sn : Snapshot) (e : Envelope) (w : Working) : Selection where
  mode := chooseMode sn e w.g (stopWanted cfg sn e w.pdem)
  startCount := startCountNext cfg sn e w.pdem
  stopCount := stopCountNext cfg sn e w.pdem
  startWanted := startWanted cfg sn e w.pdem
  stopWanted := stopWanted cfg sn e w.pdem
  weight := engineWeight cfg (stateOfCharge sn)
  blend := chooseBlend cfg sn.ms (chooseMode sn e w.g (stopWanted cfg sn e w.pdem))

end Sys2Proof.Machine
end

