-- ==== Sys2Proof/Machine/Allocate.lean ====
section
/-! DEFINITION. Allocation (spec/04): bases, passes, settlement, plan flags, and the plan a computation fills. -/

namespace Sys2Proof.Machine

/-- The three sources of a pass (R58). -/
inductive Source where
  | eng | mga | mgb
  deriving DecidableEq, Repr

/-- The direction of a pass (R61). -/
inductive Dir where
  | raise | lower
  deriving DecidableEq, Repr

/-- What one run of the allocation works from (R55). -/
structure RunInput where
  mode : Mode
  weight : Int
  g : Int
  v : Int
  nc : Int
  dc : Int
  etaA : Int
  etaB : Int
  tg : Int
  eng : Window
  mga : Window
  mgb : Window
  batt : Window
  dis : Int
  chg : Int
  regen : Int
  pin : Option Int
  deriving DecidableEq, Repr

/-- The working values of a run (R55): the current value of each source and the limit marks. The axle contributions, the power account and the residual are formed from them each time (R61, R66). -/
structure Run where
  eng : Int
  mga : Int
  mgb : Int
  powerMark : Bool
  regenMark : Bool
  deriving DecidableEq, Repr

/-- Axle contribution of ENG at its current value (R11). -/
def Run.engAxle (r : Run) (a : RunInput) : Int := axleOf r.eng a.g

/-- Axle contribution of MGA at its current value (R11). -/
def Run.mgaAxle (r : Run) (a : RunInput) : Int := axleOf r.mga a.g

/-- The power account (R14, R60). -/
def Run.power (r : Run) (a : RunInput) : Int := elecPower r.mga a.nc a.etaA + elecPower r.mgb a.v a.etaB

/-- The residual (R61). -/
def Run.residual (r : Run) (a : RunInput) : Int := a.dc - r.engAxle a - r.mgaAxle a - r.mgb

/-! ### Bases -/

/-- R57: the value of a window that lies nearest 0. -/
def forcedValue (w : Window) : Int := w.clamp 0

/-- R59, step 2: the MGA power range of the genset. -/
def gensetRange (a : RunInput) : Window :=
  torqueRange (-a.chg - elecPower (forcedValue a.mgb) a.v a.etaB) (a.dis - elecPower (forcedValue a.mgb) a.v a.etaB) a.nc a.etaA

/-- R59, step 1: Te before the balance. -/
def gensetTe (a : RunInput) : Int := min a.tg (a.eng.hi.getD a.tg)

/-- R59, steps 3 and 4: the genset torque Ta of MGA. -/
def gensetTa (a : RunInput) : Int :=
  let pr := gensetRange a
  let set := a.mga.meet pr
  let low := match maxLo (some (-(gensetTe a))) (maxLo a.mga.lo pr.lo) with | some l => l | none => -(gensetTe a)
  if set.isEmpty then forcedValue a.mga
  else match set.hi with | some h => min low h | none => low

/-- The ENG base of R58 (and step 5 of R59 in SERIES), the pin in its place in the pinned run. -/
def engBase (a : RunInput) : Int :=
  match a.pin with
  | some p => p
  | none =>
    match a.mode with
    | .hybrid => if a.dc ≤ 0 then 0 else trunc (a.eng.hi.getD 0 * a.weight) 32
    | .series => a.eng.clamp (-(gensetTa a))
    | .ev => 0
    | .handback => 0
    | .engineOnly => 0
    | .safe => 0

/-- The MGA base of R58 (R59 in SERIES). -/
def mgaBase (a : RunInput) : Int := if a.mode = .series then gensetTa a else forcedValue a.mga

/-- The run after its bases are set, with POWER_LIMITED marked where the account lies outside the BATT window (R58, R60). -/
def baseRun (a : RunInput) : Run :=
  let r : Run := ⟨engBase a, mgaBase a, forcedValue a.mgb, false, false⟩
  ⟨r.eng, r.mga, r.mgb, !a.batt.has (r.power a), false⟩

/-- The raise and lower orders of R58. -/
def passOrder : Mode → Dir → List Source
  | .ev, _ => [.mgb]
  | .hybrid, .raise => [.eng, .mgb, .mga]
  | .hybrid, .lower => [.mga, .mgb, .eng]
  | .series, _ => [.mgb]
  | .handback, .raise => [.mgb, .mga]
  | .handback, .lower => [.mga, .mgb, .eng]
  | .engineOnly, _ => [.eng]
  | .safe, _ => []

/-! ### One step of a pass -/

/-- R62: X, the axle torque the source would have to deliver to bring the residual to 0. -/
def neededAxle (a : RunInput) (r : Run) : Source → Int
  | .eng => a.dc - r.mgaAxle a - r.mgb
  | .mga => a.dc - r.engAxle a - r.mgb
  | .mgb => a.dc - r.engAxle a - r.mgaAxle a

/-- R62: the target of a crank source for X, with its correction. -/
def crankTarget (d : Dir) (x g : Int) : Int :=
  match d with
  | .raise => if x < axleOf (crankOf x g) g then crankOf x g - 1 else crankOf x g
  | .lower => if axleOf (crankOf x g) g < x then crankOf x g + 1 else crankOf x g

/-- R62: the target of a source. -/
def target (a : RunInput) (r : Run) (d : Dir) : Source → Int
  | .eng => crankTarget d (neededAxle a r .eng) a.g
  | .mga => crankTarget d (neededAxle a r .mga) a.g
  | .mgb => neededAxle a r .mgb

/-- R64: the power range; ENG has none (R63). -/
def powerRange (a : RunInput) (r : Run) : Source → Window
  | .eng => .unbounded
  | .mga => torqueRange (-a.chg - elecPower r.mgb a.v a.etaB) (a.dis - elecPower r.mgb a.v a.etaB) a.nc a.etaA
  | .mgb => torqueRange (-a.chg - elecPower r.mga a.nc a.etaA) (a.dis - elecPower r.mga a.nc a.etaA) a.v a.etaB

/-- R65: the regeneration remaining, given the other machine's axle contribution. -/
def regenLeft (regen other : Int) : Int := if other < 0 then max 0 (regen + other) else regen

/-- R63, R65: the regeneration range; it applies to a machine in the lower pass of a run whose Dc is below 0. -/
def regenRange (a : RunInput) (r : Run) (d : Dir) (s : Source) : Window :=
  if d = .lower ∧ a.dc < 0 then
    match s with
    | .eng => .unbounded
    | .mga => ⟨some (-(crankOf (regenLeft a.regen r.mgb) a.g)), none⟩
    | .mgb => ⟨some (-(regenLeft a.regen (r.mgaAxle a))), none⟩
  else .unbounded

/-- R63: the final window of the source, and for ENG in the pinned run the single value of the pin. -/
def ownWindow (a : RunInput) : Source → Window
  | .eng => match a.pin with | some p => a.eng.meet (.closed p p) | none => a.eng
  | .mga => a.mga
  | .mgb => a.mgb

/-- R66: of the values in W between the current value and the target, the one nearest the target; the current value when there is none. -/
def pickValue (d : Dir) (cur tgt : Int) (w : Window) : Int :=
  match d with
  | .raise =>
    if tgt ≤ cur then cur
    else
      let m := w.meet (.closed cur tgt)
      if m.isEmpty then cur else m.hi.getD cur
  | .lower =>
    if cur ≤ tgt then cur
    else
      let m := w.meet (.closed tgt cur)
      if m.isEmpty then cur else m.lo.getD cur

/-- The current value of a source. -/
def Run.value (r : Run) : Source → Int
  | .eng => r.eng
  | .mga => r.mga
  | .mgb => r.mgb

/-- The run with one source moved. -/
def Run.withValue (r : Run) (s : Source) (x : Int) : Run :=
  match s with
  | .eng => ⟨x, r.mga, r.mgb, r.powerMark, r.regenMark⟩
  | .mga => ⟨r.eng, x, r.mgb, r.powerMark, r.regenMark⟩
  | .mgb => ⟨r.eng, r.mga, x, r.powerMark, r.regenMark⟩

/-- One step of a pass: the new value of the source (R66) and its limit marks (R75). A crank source is skipped at g of 0 (R61). -/
def stepSource (a : RunInput) (d : Dir) (r : Run) (s : Source) : Run :=
  if s ≠ .mgb ∧ a.g = 0 then r
  else
    let cur := r.value s
    let tgt := target a r d s
    let own := ownWindow a s
    let pr := powerRange a r s
    let rr := regenRange a r d s
    let new := pickValue d cur tgt (own.meet (pr.meet rr))
    let noPower := pickValue d cur tgt (own.meet rr)
    let noRegen := pickValue d cur tgt (own.meet pr)
    let neither := pickValue d cur tgt own
    let both := noPower == new && noRegen == new && neither != new
    let r' := r.withValue s new
    ⟨r'.eng, r'.mga, r'.mgb, r.powerMark || noPower != new || both, r.regenMark || noRegen != new || both⟩

/-- The pass that the residual after the bases calls for (R61), along the order of the mode. -/
def runPass (a : RunInput) (r : Run) : Run :=
  if 0 < r.residual a then (passOrder a.mode .raise).foldl (stepSource a .raise) r
  else if r.residual a < 0 then (passOrder a.mode .lower).foldl (stepSource a .lower) r
  else r

/-- R56: a run: bases, residual, pass; R67 settles what remains. -/
def allocate (a : RunInput) : Run := runPass a (baseRun a)

/-- R67: the friction request. -/
def frictionOf (residual : Int) : Int := min residual 0

/-- R67: the shortfall. -/
def shortfallOf (residual : Int) : Int := max residual 0

/-! ### The plan -/

/-- The inputs of the unpinned run of a computation (R55). -/
def runInput (cfg : Cfg) (c : Computation) : RunInput where
  mode := c.sel.mode
  weight := c.sel.weight
  g := c.work.g
  v := c.work.v
  nc := c.work.nc
  dc := c.work.dc
  etaA := cfg.etaA
  etaB := cfg.etaB
  tg := cfg.tg
  eng := c.env.final.eng
  mga := c.env.final.mga
  mgb := c.env.final.mgb
  batt := c.env.final.batt
  dis := c.env.dis
  chg := c.env.chg
  regen := c.env.regen
  pin := none

/-- The inputs of the last run (R56, R72): a pinned computation runs once more with the pin that its first run's ENG command gives (R51). -/
def lastInput (cfg : Cfg) (c : Computation) : RunInput :=
  if c.sel.blend.active then
    { runInput cfg c with pin := some (c.sel.blend.pin (allocate (runInput cfg c)).eng c.env.final.eng) }
  else runInput cfg c

/-- R85 step 1, R76: the plan with the results of the last run, from the record the start made (number, trigger and the Scheduler's flags). -/
def fillPlan (cfg : Cfg) (c : Computation) (p : Plan) : Plan :=
  let a := lastInput cfg c
  let r := allocate a
  let res := r.residual a
  { number := p.number
    trigger := p.trigger
    mode := c.sel.mode
    dc := c.work.dc
    eng := r.eng
    mga := r.mga
    mgb := r.mgb
    engAxle := r.engAxle a
    mgaAxle := r.mgaAxle a
    friction := frictionOf res
    shortfall := shortfallOf res
    power := r.power a
    windows := c.env.final
    marks := c.env.mark
    flags :=
      { demandClipped := c.work.clipped
        shortfall := decide (0 < shortfallOf res)
        excess := decide (frictionOf res < min 0 c.work.dc)
        powerLimited := r.powerMark
        regenLimited := r.regenMark
        blending := c.sel.blend.active
        conflict := c.env.mark.eng || c.env.mark.mga || c.env.mark.mgb || c.env.mark.batt || c.env.mark.regen
        planDropped := p.flags.planDropped
        overrun := p.flags.overrun
        timerStart := p.flags.timerStart } }

/-- No plan flag present (all are absent when a computation starts). -/
def PlanFlags.none : PlanFlags := ⟨false, false, false, false, false, false, false, false, false, false⟩

/-- A record with its fields cleared, as a computation's start leaves it before it writes number, trigger and flags (R82 step 3): every number 0, every mark clear, and no flag present, as the spec says of the flags at a start (spec/04, Plan flags). The spec does not say what a cleared mode or a cleared window holds. DESIGN CHOICE (log entry 17): mode SAFE and every window open on both sides; the completion overwrites them. -/
def Plan.blank : Plan where
  number := 0
  trigger := .demand
  mode := .safe
  dc := 0
  eng := 0
  mga := 0
  mgb := 0
  engAxle := 0
  mgaAxle := 0
  friction := 0
  shortfall := 0
  power := 0
  windows := ⟨.unbounded, .unbounded, .unbounded, .unbounded, .unbounded⟩
  marks := ⟨false, false, false, false, false⟩
  flags := .none

/-- The value the plan offers a channel (R90). -/
def Plan.value (p : Plan) : Chan → Int
  | .eng => p.eng
  | .mga => p.mga
  | .mgb => p.mgb
  | .fric => p.friction

end Sys2Proof.Machine
end

