-- ==== Sys2Proof/Machine/Flags.lean ====
section
/-! DEFINITION. The Fault Monitor's own operations (spec/10) and the numbering of fault kinds and subjects (R185). -/

namespace Sys2Proof.Machine

/-- R169: the degrading class. -/
def FaultId.isDegrading : FaultId → Bool
  | .stale .demand => true
  | .stale .battery => true
  | .stale .engine => true
  | .stale .mgbEcho => true
  | .stale .mgaEcho => false
  | .stale .brake => false
  | .stale .gearbox => false
  | .stale .zone => false
  | .stale .derate => false
  | .windowInverted _ => false
  | .sourceMismatch _ => false
  | .lengthError _ => false
  | .channelRecovery _ => false
  | .channelLost _ => true
  | .conflict _ => false
  | .startFailed => false
  | .engineLockedOut => true
  | .engineInhibited => false
  | .engineStall => false
  | .stopLate => false
  | .cadenceLost => true
  | .linkSilent => true
  | .stationClash => true
  | .configDefault => true
  | .configClamped _ => false
  | .configConflict => false

/-- The list holds an entry for the fault. -/
def FaultMon.listed (m : FaultMon) (f : FaultId) : Bool := m.list.any (fun e => e.id == f)

/-- R167 step 2: one more occurrence of an entry, stopping at 255. -/
def FaultEntry.again (e : FaultEntry) : FaultEntry := ⟨e.id, e.raisedAt, min 255 (e.count + 1)⟩

/-- R167: a fault is raised at time `now`. -/
def FaultMon.raise (m : FaultMon) (f : FaultId) (now : Nat) : FaultMon :=
  let deg := if f.isDegrading && !m.degrading.contains f then m.degrading ++ [f] else m.degrading
  if m.listed f then ⟨m.list.map (fun e => if e.id = f then e.again else e), m.overflow, m.rotation, deg⟩
  else if m.list.length < 16 then ⟨m.list ++ [⟨f, now, 1⟩], m.overflow, m.rotation, deg⟩
  else ⟨m.list, true, m.rotation, deg⟩

/-- R168: a fault is removed; one that has no entry and is not in the degrading set changes nothing. -/
def FaultMon.remove (m : FaultMon) (f : FaultId) : FaultMon :=
  if m.listed f || m.degrading.contains f then
    let l := m.list.filter (fun e => e.id != f)
    ⟨l, m.overflow && decide (16 ≤ l.length), m.rotation, m.degrading.filter (fun d => d != f)⟩
  else m

/-- R171: the entry the next STATUS telegram carries, and the rotation index after its build. -/
def FaultMon.rotate (m : FaultMon) : Option FaultEntry × Nat :=
  if m.list.length = 0 then (none, 0)
  else
    let i := if m.rotation < m.list.length then m.rotation else 0
    (m.list[i]?, if i + 1 = m.list.length then 0 else i + 1)

/-- R169: the FAULT line, asserted while the degrading set is not empty. -/
def State.faultLine (s : State) : Bool := !s.fm.degrading.isEmpty

/-- The number of a consumed kind, 0 DEMAND to 8 DERATE (R185). -/
def kindCode : Kind → Nat
  | .demand => 0
  | .battery => 1
  | .engine => 2
  | .mgaEcho => 3
  | .mgbEcho => 4
  | .brake => 5
  | .gearbox => 6
  | .zone => 7
  | .derate => 8

/-- The number of a channel, 0 ENG to 3 FRIC (R185). -/
def chanCode : Chan → Nat
  | .eng => 0
  | .mga => 1
  | .mgb => 2
  | .fric => 3

/-- R185: the fault kind's number, 1 STALE to 18 CONFIG_CONFLICT. -/
def FaultId.kindNumber : FaultId → Nat
  | .stale _ => 1
  | .windowInverted _ => 2
  | .sourceMismatch _ => 3
  | .lengthError _ => 4
  | .channelRecovery _ => 5
  | .channelLost _ => 6
  | .conflict _ => 7
  | .startFailed => 8
  | .engineLockedOut => 9
  | .engineInhibited => 10
  | .engineStall => 11
  | .stopLate => 12
  | .cadenceLost => 13
  | .linkSilent => 14
  | .stationClash => 15
  | .configDefault => 16
  | .configClamped _ => 17
  | .configConflict => 18

/-- R185: the fault subject's number; 0 for the kinds without a subject. -/
def FaultId.subjectNumber : FaultId → Nat
  | .stale k => kindCode k
  | .windowInverted t => t
  | .sourceMismatch t => t
  | .lengthError t => t
  | .channelRecovery c => chanCode c
  | .channelLost c => chanCode c
  | .conflict .mga => 1
  | .conflict .mgb => 2
  | .startFailed => 0
  | .engineLockedOut => 0
  | .engineInhibited => 0
  | .engineStall => 0
  | .stopLate => 0
  | .cadenceLost => 0
  | .linkSilent => 0
  | .stationClash => 0
  | .configDefault => 0
  | .configClamped w => w
  | .configConflict => 0

/-- The fault a removal time belongs to (R98, R99). -/
def timedFaultId : TimedFault → Nat → FaultId
  | .sourceMismatch, t => .sourceMismatch t
  | .lengthError, t => .lengthError t

end Sys2Proof.Machine
end

