-- ==== Sys2Proof/Machine/Operands.lean ====
section
/-! DEFINITION. Reading what comes from outside: the telegram's bits and check (R151, R152), its payload fields (R100 to R103, R181 to R184), and the configuration image with its topic table (R96, R174, R175, R186). -/

namespace Sys2Proof.Machine

/-! ### Bits -/

/-- A run of bits as a number, most significant bit first (R151). -/
def natOfBits (bs : List Bool) : Nat := bs.foldl (fun n b => 2 * n + b.toNat) 0

/-- The lowest `width` bits of a number, most significant bit first (R151). -/
def bitsOfNat : Nat → Nat → List Bool
  | 0, _ => []
  | w + 1, n => n.testBit w :: bitsOfNat w n

/-- R152: one bit into the check register. -/
def crcStep (reg : BitVec 16) (b : Bool) : BitVec 16 :=
  if reg.msb == b then reg <<< 1 else (reg <<< 1) ^^^ 0x1021#16

/-- R152: the check over a run of bits, the register set to all ones before the first. -/
def crc16 (bs : List Bool) : BitVec 16 := bs.foldl crcStep 0xFFFF#16

/-! ### Telegrams (R151) -/

/-- The fields of a telegram on the bus, but for its check. -/
structure Frame where
  topic : Nat
  source : Nat
  seq : SeqNo
  flags : Byte
  payload : List Word
  deriving DecidableEq, Repr

/-- The bits between the start bit and the check: topic, source, control byte, flags byte, payload (R151, R181). -/
def Frame.body (f : Frame) : List Bool :=
  bitsOfNat 9 f.topic ++ bitsOfNat 5 f.source ++ bitsOfNat 4 f.seq.toNat ++ bitsOfNat 4 f.payload.length ++
  bitsOfNat 8 f.flags.toNat ++ f.payload.flatMap (fun w => bitsOfNat 16 w.toNat)

/-- A whole telegram: start bit, body, check, end marker (R151, R152). -/
def Frame.bits (f : Frame) : List Bool :=
  false :: (f.body ++ bitsOfNat 16 (crc16 f.body).toNat ++ [false, true, false, true])

/-- A run of bits as `n` words, each high byte first (R151). -/
def wordsOfBits : Nat → List Bool → List Word
  | 0, _ => []
  | n + 1, bs => BitVec.ofNat 16 (natOfBits (bs.take 16)) :: wordsOfBits n (bs.drop 16)

/-- R151, R152, R158: the telegram the bits carry, if they are well-formed and pass the check. -/
def receiveFrame (bits : List Bool) : Option Frame :=
  match bits with
  | true :: _ => none
  | [] => none
  | false :: rest =>
    let topic := natOfBits (rest.take 9)
    let source := natOfBits ((rest.drop 9).take 5)
    let seq := natOfBits ((rest.drop 14).take 4)
    let count := natOfBits ((rest.drop 18).take 4)
    let flags := natOfBits ((rest.drop 22).take 8)
    let check := natOfBits ((rest.drop (30 + 16 * count)).take 16)
    let marker := rest.drop (46 + 16 * count)
    if topic ≠ 0 ∧ source ≠ 31 ∧ count ≤ 8 ∧ rest.length = 50 + 16 * count ∧ marker = [false, true, false, true] ∧
        (crc16 (rest.take (30 + 16 * count))).toNat = check then
      some ⟨topic, source, BitVec.ofNat 4 seq, BitVec.ofNat 8 flags, wordsOfBits count (rest.drop 30)⟩
    else none

/-! ### Payload fields (R100 to R102, R181 to R184) -/

/-- A payload word by its number (R184). -/
def Frame.word (f : Frame) (i : Nat) : Word := f.payload.getD i 0

/-- R181: a numeric field, clamped into its intake range. -/
def numField (w : Word) (lo hi : Int) : Int := clampInt lo hi w.toInt

/-- R181: a bound field; the open key 0x8000 is an open side. -/
def boundField (w : Word) (lo hi : Int) : Option Int := if w = 0x8000#16 then none else some (numField w lo hi)

/-- R182, R101: battery state. -/
def batteryStateOf (w : Word) : BatteryState := if w = 0 then .normal else .fault

/-- R182, R101: engine state. -/
def engineStateOf (w : Word) : EngineState :=
  match w.toNat with
  | 0 => .off
  | 1 => .cranking
  | 2 => .running
  | 3 => .stopping
  | 4 => .fault
  | 5 => .inhibit
  | _ => .fault

/-- R182, R101: gear code. -/
def gearOfWord (w : Word) : Gear :=
  match w.toNat with
  | 0 => .park
  | 1 => .reverse
  | 2 => .neutral
  | 3 => .drive
  | _ => .park

/-- R182, R101: zone code. -/
def zoneOfWord (w : Word) : Zone :=
  match w.toNat with
  | 0 => .unrestricted
  | 1 => .lowEmission
  | 2 => .zeroEmission
  | _ => .zeroEmission

/-- R183, R101: the echo word. -/
def echoOf (w : Word) : EchoWord where
  seq := BitVec.ofNat 4 (w.toNat / 4096)
  status :=
    match w.toNat % 4 with
    | 0 => .applied
    | 1 => .clamped
    | _ => .refused

/-- R102: the stored ratio. -/
def ratioOf (w : Word) : Int := if w.toInt ≤ 0 then 0 else clampInt 250 2000 w.toInt

/-- R103: a window is inverted when wmin exceeds wmax as received, both being numbers. -/
def isInverted (wmin wmax : Word) : Bool :=
  wmin != 0x8000#16 && wmax != 0x8000#16 && decide (wmax.toInt < wmin.toInt)

/-- The fields of a BATTERY telegram. -/
def batteryFields (f : Frame) : BatteryFields :=
  ⟨boundField (f.word 0) 0 1500, boundField (f.word 1) 0 1000, numField (f.word 2) 0 1000, batteryStateOf (f.word 3)⟩

/-- The fields of an ENGINE telegram. -/
def engineFields (f : Frame) : EngineFields :=
  ⟨engineStateOf (f.word 0), boundField (f.word 1) 0 420, numField (f.word 2) 0 7000, echoOf (f.word 3), numField (f.word 4) 0 420⟩

/-- The fields of an MGA_ECHO (`limit` 250) or MGB_ECHO (`limit` 3000) telegram, an inverted window stored as [0, 0] (R103). -/
def machineFields (limit : Int) (f : Frame) : MachineFields :=
  if isInverted (f.word 0) (f.word 1) then ⟨some 0, some 0, numField (f.word 2) (-limit) limit, echoOf (f.word 3)⟩
  else ⟨boundField (f.word 0) (-limit) 0, boundField (f.word 1) 0 limit, numField (f.word 2) (-limit) limit, echoOf (f.word 3)⟩

/-- The fields of a BRAKE telegram. -/
def brakeFields (f : Frame) : BrakeFields :=
  ⟨boundField (f.word 0) 0 4000, numField (f.word 1) 0 1500, numField (f.word 2) (-14400) 0, echoOf (f.word 3)⟩

/-- The fields of a GEARBOX telegram. -/
def gearboxFields (f : Frame) : GearboxFields := ⟨ratioOf (f.word 0), gearOfWord (f.word 1)⟩

/-- The fields of a DERATE telegram. -/
def derateFields (f : Frame) : DerateFields := ⟨numField (f.word 0) 0 1000, numField (f.word 1) 0 1000⟩

/-- R100: the length of a kind in words. -/
def kindWords : Kind → Nat
  | .demand => 1
  | .battery => 4
  | .engine => 5
  | .mgaEcho => 4
  | .mgbEcho => 4
  | .brake => 4
  | .gearbox => 2
  | .zone => 1
  | .derate => 2

/-- R95, R111: the channel to which a kind's echo word is routed. -/
def echoChan : Kind → Option Chan
  | .engine => some .eng
  | .mgaEcho => some .mga
  | .mgbEcho => some .mgb
  | .brake => some .fric
  | .demand => none
  | .battery => none
  | .gearbox => none
  | .zone => none
  | .derate => none

/-! ### The configuration image (R174, R175, R186) -/

/-- Bytes as words, high byte first; a last byte without its pair is no word (R186). -/
def wordsOfBytes : List Byte → List Word
  | hi :: lo :: rest => (hi ++ lo) :: wordsOfBytes rest
  | _ => []

/-- The sum of words modulo 65536 (R174). -/
def sumWords (ws : List Word) : Word := ws.foldl (· + ·) 0

/-- R174: the checks that a complete image must pass: 62 words, length word 60, and the sum. -/
def imageGood (ws : List Word) : Bool :=
  ws.length == 62 && ws.getD 0 0 == 60 && sumWords (ws.take 61) == ws.getD 61 0

/-- A numeric field of the image: its word, lowest bit, width and range (R186). -/
structure ImageField where
  word : Nat
  lsb : Nat
  width : Nat
  lo : Nat
  hi : Nat
  deriving DecidableEq, Repr

/-- The bits of a field, read as an unsigned number (R186). -/
def fieldBits (ws : List Word) (word lsb width : Nat) : Nat := (ws.getD word 0).toNat / 2 ^ lsb % 2 ^ width

/-- The field as the image holds it. -/
def ImageField.raw (f : ImageField) (ws : List Word) : Nat := fieldBits ws f.word f.lsb f.width

/-- The field clamped into its range (R175). -/
def ImageField.value (f : ImageField) (ws : List Word) : Nat := clampNat f.lo f.hi (f.raw ws)

/-- The clamping changes the field. -/
def ImageField.changed (f : ImageField) (ws : List Word) : Bool := f.value ws != f.raw ws

/-- A field that takes a whole word. -/
def wholeWord (word lo hi : Nat) : ImageField := ⟨word, 0, 16, lo, hi⟩

/-- A field that takes the low byte of a word. -/
def lowByte (word lo hi : Nat) : ImageField := ⟨word, 0, 8, lo, hi⟩

/-- A field that takes the high byte of a word. -/
def highByte (word lo hi : Nat) : ImageField := ⟨word, 8, 8, lo, hi⟩

/-- Consumed topic of a kind, words 2 to 10. -/
def topicField (k : Kind) : ImageField := wholeWord (2 + kindCode k) 1 511

/-- The kinds in the order of R96. -/
def allKinds : List Kind := [.demand, .battery, .engine, .mgaEcho, .mgbEcho, .brake, .gearbox, .zone, .derate]

/-- One value for each kind, computed from the kind. -/
def perKind {α : Type} (f : Kind → α) : PerKind α :=
  ⟨f .demand, f .battery, f .engine, f .mgaEcho, f .mgbEcho, f .brake, f .gearbox, f .zone, f .derate⟩

/-- Expected source of a kind, words 11 to 13, five bits each. -/
def sourceField (k : Kind) : ImageField := ⟨11 + kindCode k / 3, 5 * (kindCode k % 3), 5, 0, 31⟩

/-- Fresh limit of a kind, words 20 to 28. -/
def freshField (k : Kind) : ImageField := wholeWord (20 + kindCode k) 10 1000

/-- Hold limit of a kind, words 29 to 37, before it is held up to the fresh limit. -/
def holdField (k : Kind) : ImageField := wholeWord (29 + kindCode k) 10 5000

/-- R106, R175: the hold limit in force, at least the fresh limit. -/
def holdValue (ws : List Word) (k : Kind) : Nat := max ((holdField k).value ws) ((freshField k).value ws)

/-- A two-bit code field that gives `code` when it names a code, and the default otherwise (R175, R186). -/
def codeField {α : Type} (ws : List Word) (word lsb : Nat) (codes : List α) (dflt : α) : α :=
  codes.getD (fieldBits ws word lsb 2) dflt

/-- A two-bit code field names no code. -/
def codeBad (ws : List Word) (word lsb codes : Nat) : Bool := decide (codes ≤ fieldBits ws word lsb 2)

/-- A channel mode, word 38, two bits each. -/
def chanModeField (ws : List Word) (lsb : Nat) : ChanMode := codeField ws 38 lsb [.grouped, .solo] .grouped

/-- A shut enable, word 38, one bit each (R186). The spec does not say which value of the bit means enabled. DESIGN CHOICE (log entry 20): 1 is enabled and 0 is not. -/
def shutField (ws : List Word) (bit : Nat) : Bool := fieldBits ws 38 bit 1 == 1

/-- The configuration a good image puts in force (R175, R186). -/
def cfgOfImage (ws : List Word) : Cfg where
  station := (ImageField.mk 1 0 5 0 30).value ws
  bitRate := codeField ws 1 8 [.k250, .k500] .k500
  topic := perKind (fun k => (topicField k).value ws)
  source := perKind (fun k => (sourceField k).value ws)
  outTopic := ⟨(wholeWord 14 1 511).value ws, (wholeWord 15 1 511).value ws, (wholeWord 16 1 511).value ws, (wholeWord 17 1 511).value ws⟩
  statusTopic := (wholeWord 18 1 511).value ws
  wakeTopic := (wholeWord 19 1 511).value ws
  fresh := perKind (fun k => (freshField k).value ws)
  hold := perKind (holdValue ws)
  chanMode := ⟨chanModeField ws 0, chanModeField ws 2, chanModeField ws 4, chanModeField ws 6⟩
  shutEnable := ⟨shutField ws 8, shutField ws 9, shutField ws 10, shutField ws 11⟩
  releaseSource := codeField ws 39 0 [.plan, .line] .plan
  releaseEdge := codeField ws 39 4 [.rising, .falling, .both] .rising
  echoTimeout := (lowByte 40 10 200).value ws
  nRetry := (highByte 40 1 7).value ws
  tCycleMax := (lowByte 41 12 60).value ws
  blendStep := (highByte 41 1 32).value ws
  sLow := (wholeWord 42 0 1000).value ws
  sHigh := (wholeWord 43 0 1000).value ws
  wLo := (lowByte 44 0 32).value ws
  wMid := (highByte 44 0 32).value ws
  wHi := (lowByte 45 0 32).value ws
  nStart := (highByte 45 0 15).value ws
  nStop := (lowByte 46 0 31).value ws
  pEv := (wholeWord 47 0 1500).value ws
  pEvStop := (wholeWord 48 0 1500).value ws
  tg := (wholeWord 49 0 300).value ws
  etaA := (wholeWord 50 700 990).value ws
  etaB := (wholeWord 51 700 990).value ws
  capE := (wholeWord 52 0 420).value ws
  capA := (wholeWord 53 0 250).value ws
  capB := (wholeWord 54 0 3000).value ws
  capC := (wholeWord 55 0 1000).value ws
  capD := (wholeWord 56 0 1500).value ws
  vCap := (wholeWord 57 500 1500).value ws
  nCap := (wholeWord 58 3000 7000).value ws
  dCeiling := (wholeWord 59 1000 6000).value ws
  startTimeout := (wholeWord 60 500 3000).value ws

/-- Whether each field of the image is changed by R175, with its word, in the order of the words. -/
def fieldChanges (ws : List Word) : List (Nat × Bool) :=
  [(1, (ImageField.mk 1 0 5 0 30).changed ws || codeBad ws 1 8 2)] ++
  allKinds.map (fun k => ((topicField k).word, (topicField k).changed ws)) ++
  [14, 15, 16, 17, 18, 19].map (fun w => (w, (wholeWord w 1 511).changed ws)) ++
  allKinds.map (fun k => ((freshField k).word, (freshField k).changed ws)) ++
  allKinds.map (fun k => ((holdField k).word, holdValue ws k != (holdField k).raw ws)) ++
  [(38, [0, 2, 4, 6].any (fun lsb => codeBad ws 38 lsb 2)),
   (39, codeBad ws 39 0 2 || codeBad ws 39 4 3)] ++
  [lowByte 40 10 200, highByte 40 1 7, lowByte 41 12 60, highByte 41 1 32, wholeWord 42 0 1000, wholeWord 43 0 1000,
   lowByte 44 0 32, highByte 44 0 32, lowByte 45 0 32, highByte 45 0 15, lowByte 46 0 31, wholeWord 47 0 1500,
   wholeWord 48 0 1500, wholeWord 49 0 300, wholeWord 50 700 990, wholeWord 51 700 990, wholeWord 52 0 420,
   wholeWord 53 0 250, wholeWord 54 0 3000, wholeWord 55 0 1000, wholeWord 56 0 1500, wholeWord 57 500 1500,
   wholeWord 58 3000 7000, wholeWord 59 1000 6000, wholeWord 60 500 3000].map (fun f => (f.word, f.changed ws))

/-- R175: the word of the first clamped field, if any field was clamped. -/
def firstClamped (ws : List Word) : Option Nat := ((fieldChanges ws).find? (fun p => p.2)).map (·.1)

/-- R174: the image that a read gave, when the load does not fail. -/
def goodImage : ImageRead → Option (List Word)
  | .noAck => none
  | .bytes bs => if imageGood (wordsOfBytes bs) then some (wordsOfBytes bs) else none

/-! ### The topic table (R95, R96) -/

/-- The five outgoing topics. -/
def outgoingTopics (cfg : Cfg) : List Nat :=
  [cfg.outTopic.eng, cfg.outTopic.mga, cfg.outTopic.mgb, cfg.outTopic.fric, cfg.statusTopic]

/-- R96: one kind entered, or left out where its topic clashes; the mark says whether any was left out. -/
def enterKind (cfg : Cfg) (acc : List TopicEntry × Bool) (k : Kind) : List TopicEntry × Bool :=
  let t := cfg.topic.get k
  if acc.1.any (fun e => e.topic == t) || (outgoingTopics cfg).contains t then (acc.1, true)
  else (acc.1 ++ [⟨t, some ⟨k, cfg.source.get k, cfg.fresh.get k, cfg.hold.get k, echoChan k⟩, false⟩], acc.2)

/-- R96: the wake topic, taken last. -/
def enterWake (cfg : Cfg) (acc : List TopicEntry × Bool) : List TopicEntry × Bool :=
  if acc.1.any (fun e => e.topic == cfg.wakeTopic) then
    (acc.1.map (fun e => if e.topic = cfg.wakeTopic then ⟨e.topic, e.consumed, true⟩ else e), acc.2)
  else if (outgoingTopics cfg).contains cfg.wakeTopic then (acc.1, true)
  else (acc.1 ++ [⟨cfg.wakeTopic, none, true⟩], acc.2)

/-- R96: the topic table of a configuration, and the conflict mark of its building. -/
def buildTable (cfg : Cfg) : List TopicEntry × Bool := enterWake cfg (allKinds.foldl (enterKind cfg) ([], false))

/-- The entry of a topic (R97). -/
def findTopic (table : List TopicEntry) (topic : Nat) : Option TopicEntry := table.find? (fun e => e.topic == topic)

/-- The consumed part of a kind's entry. -/
def findKind (table : List TopicEntry) (k : Kind) : Option Consumed :=
  (table.filterMap (·.consumed)).find? (fun c => c.kind == k)

end Sys2Proof.Machine
end

