-- ==== Sys2Proof/Machine/Telegrams.lean ====
section
/-! DEFINITION. The telegrams the part sends: payloads (R185), and the frame an attempt writes (R151, R152, R162, R181). -/

namespace Sys2Proof.Machine

/-- R181: a signed number as a word. -/
def wordOfInt (x : Int) : Word := BitVec.ofInt 16 x

/-- R182: request code. -/
def requestCode : Request → Nat
  | .none => 0
  | .start => 1
  | .stop => 2

/-- R182: mode code. -/
def modeCode : Mode → Nat
  | .safe => 0
  | .ev => 1
  | .hybrid => 2
  | .series => 3
  | .handback => 4
  | .engineOnly => 5

/-- R182: negotiator state code. -/
def negCode : NegState → Nat
  | .unknown => 0
  | .stopped => 1
  | .startPending => 2
  | .cranking => 3
  | .running => 4
  | .withdrawing => 5
  | .stopPending => 6
  | .inhibited => 7
  | .lockedOut => 8

/-- R182: reset cause code. -/
def causeCode : ResetCause → Nat
  | .powerOn => 0
  | .resetLine => 1
  | .wake => 2

/-- R185: the plan flags in bits 0 to 9. -/
def flagBits (f : PlanFlags) : Nat :=
  f.demandClipped.toNat + 2 * f.shortfall.toNat + 4 * f.excess.toNat + 8 * f.powerLimited.toNat + 16 * f.regenLimited.toNat +
  32 * f.blending.toNat + 64 * f.conflict.toNat + 128 * f.planDropped.toNat + 256 * f.overrun.toNat + 512 * f.timerStart.toNat

/-- R185: the payload of a setpoint telegram; ENG's carries the request as well. -/
def Setpoint.payload (c : Chan) (sp : Setpoint) : List Word :=
  match c with
  | .eng => [wordOfInt sp.value, BitVec.ofNat 16 (requestCode sp.request)]
  | .mga => [wordOfInt sp.value]
  | .mgb => [wordOfInt sp.value]
  | .fric => [wordOfInt sp.value]

/-- R185: the fault kind, subject, occurrence count and raised time that a STATUS telegram carries; all 0 with the no-fault code. -/
def entryNumbers : Option FaultEntry → Nat × Nat × Nat × Nat
  | none => (0, 0, 0, 0)
  | some e => (e.id.kindNumber, e.id.subjectNumber, e.count, e.raisedAt % 65536)

/-- R185: the payload of a STATUS telegram. -/
def StatusTelegram.payload (t : StatusTelegram) : List Word :=
  let e := entryNumbers t.entry
  [BitVec.ofNat 16 (256 * (t.planNumber.toNat % 256) + 16 * modeCode t.mode + negCode t.neg),
   BitVec.ofNat 16 (2048 * t.faultCount + 1024 * t.overflow.toNat + flagBits t.flags),
   BitVec.ofNat 16 (16384 * causeCode t.cause + 512 * e.1 + e.2.1),
   BitVec.ofNat 16 (256 * e.2.2.1),
   wordOfInt t.shortfall,
   wordOfInt t.friction,
   wordOfInt t.power,
   BitVec.ofNat 16 e.2.2.2]

/-- The outgoing topic of a telegram's kind (R150). -/
def Outgoing.topic (cfg : Cfg) : Outgoing → Nat
  | .setpoint c _ => cfg.outTopic.get c
  | .status _ => cfg.statusTopic

/-- The payload of a telegram. -/
def Outgoing.payload : Outgoing → List Word
  | .setpoint c sp => sp.payload c
  | .status st => st.payload

/-- The POLL flag of a telegram; STATUS carries it clear (R170). -/
def Outgoing.poll : Outgoing → Bool
  | .setpoint _ sp => sp.poll
  | .status _ => false

/-- R162, R181: the frame of an attempt. -/
def Outgoing.frame (cfg : Cfg) (t : Outgoing) (seq : SeqNo) : Frame where
  topic := t.topic cfg
  source := cfg.station
  seq := seq
  flags := if t.poll then 1 else 0
  payload := t.payload

/-- R162: the attempt with a telegram: its sequence number and its bits with a fresh check. -/
def Outgoing.attempt (cfg : Cfg) (t : Outgoing) (seq : SeqNo) : Attempt := ⟨t, seq, (t.frame cfg seq).bits⟩

/-- The waiting telegrams, in the order ENG, MGA, MGB, FRIC, STATUS (R150, R161). -/
def Bus.waiting (b : Bus) : List Outgoing :=
  ([Chan.eng, .mga, .mgb, .fric].filterMap (fun c => (b.queue.get c).map (Outgoing.setpoint c))) ++
  (b.statusQ.map Outgoing.status).toList

/-- R161: of two waiting telegrams the one of the lower topic, and of equal topics the earlier. -/
def lowerTopic (cfg : Cfg) (best : Option Outgoing) (t : Outgoing) : Option Outgoing :=
  match best with
  | none => some t
  | some b => if t.topic cfg < b.topic cfg then some t else some b

/-- R161: the telegram the next attempt takes. -/
def Bus.choose (cfg : Cfg) (b : Bus) : Option Outgoing := b.waiting.foldl (lowerTopic cfg) none

/-- The next sequence number of a telegram's kind (R150). -/
def Bus.seqOf (b : Bus) : Outgoing → SeqNo
  | .setpoint c _ => b.seqs.get c
  | .status _ => b.statusSeq

end Sys2Proof.Machine
end

