-- ==== Sys2Proof/Machine/Ops.lean ====
section
/-! DEFINITION. Shared operations on the whole state: block updates, faults raised and removed, telegram builds, the request supplied. -/

namespace Sys2Proof.Machine

/-! ### Block updates -/

/-- The state with its `now` replaced. -/
def State.withNow (s : State) (x : Nat) : State := { s with now := x }

/-- The state with its `pins` replaced. -/
def State.withPins (s : State) (x : Pins) : State := { s with pins := x }

/-- The state with its `cfg` replaced. -/
def State.withCfg (s : State) (x : Cfg) : State := { s with cfg := x }

/-- The state with its `su` replaced. -/
def State.withSu (s : State) (x : Startup) : State := { s with su := x }

/-- The state with its `bi` replaced. -/
def State.withBi (s : State) (x : Bus) : State := { s with bi := x }

/-- The state with its `ti` replaced. -/
def State.withTi (s : State) (x : Intake) : State := { s with ti := x }

/-- The state with its `cs` replaced. -/
def State.withCs (s : State) (x : Sched) : State := { s with cs := x }

/-- The state with its `eb` replaced. -/
def State.withEb (s : State) (x : Overrides) : State := { s with eb := x }

/-- The state with its `ms` replaced. -/
def State.withMs (s : State) (x : ModeSel) : State := { s with ms := x }

/-- The state with its `cu` replaced. -/
def State.withCu (s : State) (x : PerChan Channel) : State := { s with cu := x }

/-- The state with its `en` replaced. -/
def State.withEn (s : State) (x : Neg) : State := { s with en := x }

/-- The state with its `fm` replaced. -/
def State.withFm (s : State) (x : FaultMon) : State := { s with fm := x }

/-- The state with its `free` replaced. -/
def State.withFree (s : State) (x : Nat) : State := { s with free := x }

/-- The state with its `pending` replaced. -/
def State.withPending (s : State) (x : List Instr) : State := { s with pending := x }
/-- The state with one channel replaced. -/
def State.withChan (s : State) (c : Chan) (ch : Channel) : State := s.withCu (s.cu.set c ch)

/-- The state with the waiting telegram of one channel replaced. -/
def State.withWaiting (s : State) (c : Chan) (sp : Option Setpoint) : State :=
  s.withBi { s.bi with queue := s.bi.queue.set c sp }

/-! ### Faults (R167, R168) -/

/-- A block raises a fault now. -/
def State.raise (s : State) (f : FaultId) : State := s.withFm (s.fm.raise f s.now)

/-- A block removes a fault. -/
def State.remove (s : State) (f : FaultId) : State := s.withFm (s.fm.remove f)

/-- R168: two changes of the fault list that one command makes and that no rule puts in order. Where the order shows, a free choice settles it (log entry 5). -/
def State.eitherFirst (s : State) (f g : FaultMon → FaultMon) : State :=
  if g (f s.fm) = f (g s.fm) then s.withFm (g (f s.fm))
  else if Config.freeChoice s.free % 2 = 0 then (s.withFm (g (f s.fm))).withFree (s.free + 1)
  else (s.withFm (f (g s.fm))).withFree (s.free + 1)

/-- R168: a change of the fault list and an operation that changes it too, in one command, with no rule to put the two in order (log entry 5). The operation reads nothing of the fault list but to change it. -/
def State.aroundFault (s : State) (g : FaultMon → FaultMon) (op : State → State) : State :=
  let r := s.eitherFirst g (fun m => (op (s.withFm m)).fm)
  ((op s).withFm r.fm).withFree r.free

/-! ### The request field (R136, R117) -/

/-- R136: the request the Negotiator supplies. -/
def State.request (s : State) : Request :=
  match s.en.state with
  | .startPending => if s.ti.zone.confirmed = some .zeroEmission then .none else .start
  | .stopPending => .stop
  | .unknown => .none
  | .stopped => .none
  | .cranking => .none
  | .running => .none
  | .withdrawing => .none
  | .inhibited => .none
  | .lockedOut => .none

/-- R136, R117: where the request supplied has changed from `old`, a waiting ENG telegram is rebuilt with the new one, its value and POLL as they were. -/
def State.syncRequest (s : State) (old : Request) : State :=
  if s.request = old then s
  else s.withWaiting .eng (s.bi.queue.eng.map (fun sp => ⟨sp.value, sp.poll, s.request⟩))

/-! ### Builds (R116, R117) -/

/-- The request a telegram of the channel carries: ENG's is the one supplied now (R116). -/
def State.requestFor (s : State) (c : Chan) : Request := if c = .eng then s.request else .none

/-- R116: the value a channel's telegram carries, given the value offered. -/
def Channel.sendValue (ch : Channel) (offered : Int) : Int := if ch.shut = true ∨ ch.hs = .lost then 0 else offered

/-- R116: POLL at the moment of building. -/
def Channel.poll (ch : Channel) : Bool := ch.hs == .recovery || ch.hs == .lost

/-- R116: the channel builds a telegram into its queue entry, replacing any that waits. -/
def State.build (s : State) (c : Chan) (offered : Int) : State :=
  s.withWaiting c (some ⟨(s.cu.get c).sendValue offered, (s.cu.get c).poll, s.requestFor c⟩)

/-- R117: a telegram of a channel that enters LOST is built anew with value 0 and POLL, if one waits. -/
def State.rebuildLost (s : State) (c : Chan) : State :=
  match s.bi.queue.get c with
  | none => s
  | some _ => s.withWaiting c (some ⟨0, true, s.requestFor c⟩)

/-- The four channels in their order. -/
def allChans : List Chan := [.eng, .mga, .mgb, .fric]

/-- R90, R91: the channels of one mode build from a plan. -/
def State.buildAll (s : State) (m : ChanMode) (p : Plan) : State :=
  allChans.foldl (fun t c => if t.cfg.chanMode.get c = m then t.build c (p.value c) else t) s

/-- The part is READY or WINDING_DOWN. -/
def State.working (s : State) : Bool := s.su.part == .ready || s.su.part == .windingDown

/-- A timer has reached its expiry time. -/
def timerDue (t : Option Nat) (now : Nat) : Bool :=
  match t with
  | some d => decide (d ≤ now)
  | none => false

end Sys2Proof.Machine
end

