-- ==== Sys2Proof/Machine/Handshake.lean ====
section
/-! DEFINITION. The channels' handshake (spec/07): deadlines, expiries, complete sends, echoes. -/

namespace Sys2Proof.Machine

/-- R120: the deadline formed afresh from the oldest entry. -/
def State.formDeadline (s : State) (c : Chan) : State :=
  let ch := s.cu.get c
  s.withChan c { ch with deadline := ch.list.head?.map (fun e => e.time + s.cfg.echoTimeout) }

/-- R121, R127: the oldest entry is given up, with the effects on counts, state and faults; the deadline is left to be formed afresh. -/
def State.expireOldest (s : State) (c : Chan) : State :=
  let ch := s.cu.get c
  let rest := { ch with list := ch.list.tail }
  match ch.hs with
  | .idle => s.withChan c rest
  | .lost => (s.withChan c { rest with readm := 0 }).raise (.channelLost c)
  | .active =>
    if s.cfg.nRetry ≤ ch.retry + 1 then
      ((s.withChan c { rest with hs := .lost, retry := ch.retry + 1 }).raise (.channelLost c)).rebuildLost c
    else (s.withChan c { rest with hs := .recovery, retry := ch.retry + 1 }).raise (.channelRecovery c)
  | .recovery =>
    if s.cfg.nRetry ≤ ch.retry + 1 then
      (((s.withChan c { rest with hs := .lost, retry := ch.retry + 1 }).remove (.channelRecovery c)).raise (.channelLost c)).rebuildLost c
    else (s.withChan c { rest with retry := ch.retry + 1 }).raise (.channelRecovery c)

/-- R120: the deadline formed afresh, and any that lies at or before the present expired at once, for at most `fuel` entries. -/
def State.settleDeadline : Nat → State → Chan → State
  | 0, s, c => s.formDeadline c
  | n + 1, s, c =>
    let t := s.formDeadline c
    if timerDue (t.cu.get c).deadline t.now then State.settleDeadline n (t.expireOldest c) c else t

/-- R120 for as many entries as the list holds. -/
def State.freshDeadline (s : State) (c : Chan) : State := s.settleDeadline (s.cu.get c).list.length c

/-- R121: the deadline expires. -/
def State.expireDeadline (s : State) (c : Chan) : State := (s.expireOldest c).freshDeadline c

/-- R118: the channel is told of a complete send of its telegram. -/
def State.channelSent (s : State) (c : Chan) (seq : SeqNo) (value : Int) : State :=
  let s1 := if 4 ≤ (s.cu.get c).list.length then s.expireOldest c else s
  let ch := s1.cu.get c
  let ch' := { ch with list := ch.list ++ [⟨seq, value, s1.now⟩] }
  let ch'' := if ch.hs = .idle then { ch' with hs := .active, retry := 0 } else ch'
  (s1.withChan c ch'').freshDeadline c

/-- R123: the entry a sequence number matches, and the entries newer than it. -/
def matchEcho (seq : SeqNo) : List Sent → Option (Sent × List Sent)
  | [] => none
  | e :: es => if e.seq = seq then some (e, es) else matchEcho seq es

/-- The override a matched echo sets, if it sets one (R31). -/
def overrideOf (status : EchoStatus) (applied commanded : Int) : Option Override :=
  match status with
  | .applied => none
  | .refused => some ⟨status, applied, commanded⟩
  | .clamped => if applied = commanded then none else some ⟨status, applied, commanded⟩

/-- R31, R32: a pending override of the channel's quantity is replaced; FRIC has none. -/
def Overrides.put (o : Overrides) (c : Chan) (x : Override) : Overrides :=
  match c with
  | .eng => { o with eng := some x }
  | .mga => { o with mga := some x }
  | .mgb => { o with mgb := some x }
  | .fric => o

/-- R124, R31: a matched echo is handed to the Envelope Builder. -/
def State.handOverride (s : State) (c : Chan) (status : EchoStatus) (applied commanded : Int) : State :=
  match overrideOf status applied commanded with
  | none => s
  | some x => s.withEb (s.eb.put c x)

/-- R124, R125: what a matched echo does to the channel whose list it has left as `rest`. -/
def State.answerChannel (s : State) (c : Chan) (status : EchoStatus) (rest : List Sent) : State :=
  let ch := { s.cu.get c with list := rest }
  match ch.hs with
  | .lost =>
    match status with
    | .applied =>
      if 2 ≤ ch.readm + 1 then (s.withChan c { ch with hs := .active, retry := 0, readm := 0 }).remove (.channelLost c)
      else s.withChan c { ch with readm := ch.readm + 1 }
    | .clamped => s.withChan c { ch with readm := 0 }
    | .refused => s.withChan c { ch with readm := 0 }
  | .recovery => (s.withChan c { ch with hs := .active, retry := 0 }).remove (.channelRecovery c)
  | .active => s.withChan c { ch with retry := 0 }
  | .idle => s.withChan c { ch with hs := .active, retry := 0 }

/-- R123: an echo word reaches a channel with its applied value. -/
def State.routeEcho (s : State) (c : Chan) (e : EchoWord) (applied : Int) : State :=
  match matchEcho e.seq (s.cu.get c).list with
  | none => s
  | some (entry, rest) =>
    ((s.answerChannel c e.status rest).handOverride c e.status applied entry.value).freshDeadline c

end Sys2Proof.Machine
end

