-- ==== Sys2Proof/Machine/Negotiate.lean ====
section
/-! DEFINITION. The Engine Negotiator (spec/08). -/

namespace Sys2Proof.Machine

/-- R142: the Negotiator enters RUNNING. -/
def State.enterRunning (s : State) : State :=
  ((s.withEn { s.en with state := .running, failed := 0 }).remove .startFailed).remove .engineStall

/-- The Negotiator enters CRANKING with the start timer started (R137, R138, R139, R140). -/
def State.enterCranking (s : State) : State :=
  s.withEn { s.en with state := .cranking, start := some (s.now + s.cfg.startTimeout) }

/-- The Negotiator enters STOPPED. -/
def State.enterStopped (s : State) : State := s.withEn { s.en with state := .stopped }

/-- The Negotiator enters STOP_PENDING with the stop timer of 3000 ms started (R141, R145). -/
def State.enterStopPending (s : State) : State :=
  s.withEn { s.en with state := .stopPending, stop := some (s.now + 3000) }

/-- R144: the Negotiator enters INHIBITED: the timer of the state it leaves stopped, the hold of 2000 ms started. -/
def State.enterInhibited (s : State) : State :=
  (s.withEn { s.en with state := .inhibited, ack := none, start := none, withdrawals := 0, hold := some (s.now + 2000) }).raise .engineInhibited

/-- R142: a failed start is counted and START_FAILED raised. -/
def State.countFailure (s : State) : State := (s.withEn { s.en with failed := s.en.failed + 1 }).raise .startFailed

/-- R142: the third failure locks the Negotiator out. -/
def State.lockOut (s : State) : State :=
  (s.withEn { s.en with state := .lockedOut, ack := none, start := none, stop := none, hold := none }).raise .engineLockedOut

/-- R142: a failed start, after which the Negotiator goes where `next` leads, or to LOCKED_OUT at the third. -/
def State.failedStart (s : State) (next : State → State) : State :=
  let t := s.countFailure
  if 3 ≤ t.en.failed then t.lockOut else next t

/-- The ack timer stopped. -/
def State.stopAck (s : State) : State := s.withEn { s.en with ack := none }

/-- The start timer stopped. -/
def State.stopStart (s : State) : State := s.withEn { s.en with start := none }

/-- The stop timer stopped. -/
def State.stopStop (s : State) : State := s.withEn { s.en with stop := none }

/-- The inhibit hold stopped. -/
def State.stopHold (s : State) : State := s.withEn { s.en with hold := none }

/-- R137, R138: an engine that cranks or runs is followed; any other state does `other`. -/
def State.followEngine (s : State) (e : EngineState) (other : State → State) : State :=
  match e with
  | .running => s.enterRunning
  | .cranking => s.enterCranking
  | .off => other s
  | .stopping => other s
  | .fault => other s
  | .inhibit => other s

/-- R135: the observed state becomes the state handed. -/
def State.observe (s : State) (e : EngineState) : State := s.withEn { s.en with observed := some e }

/-- R139: an engine state handed in START_PENDING. -/
def State.handStartPending (s : State) (e : EngineState) : State :=
  match e with
  | .cranking => s.stopAck.enterCranking
  | .running => s.stopAck.enterRunning
  | .inhibit => s.enterInhibited
  | .off => s
  | .stopping => s
  | .fault => s

/-- R141: an engine state handed in CRANKING. -/
def State.handCranking (s : State) (e : EngineState) : State :=
  match e with
  | .running => s.stopStart.enterRunning
  | .inhibit => s.enterInhibited
  | .cranking => s
  | .off => s.stopStart.failedStart State.enterStopped
  | .stopping => s.stopStart.failedStart State.enterStopped
  | .fault => s.stopStart.failedStart State.enterStopped

/-- R146: an engine state handed in STOP_PENDING. -/
def State.handStopPending (s : State) (e : EngineState) : State :=
  match e with
  | .off => s.stopStop.enterStopped
  | .fault => s.stopStop.enterStopped
  | .inhibit => s.stopStop.enterStopped
  | .stopping => s
  | .running => s
  | .cranking => s

/-- R137 to R146: what the Negotiator makes of an engine state handed, by the state it is in. -/
def State.takeEngine (s : State) (e : EngineState) : State :=
  let t := s.observe e
  match s.en.state with
  | .unknown => t.followEngine e State.enterStopped
  | .stopped => t.followEngine e id
  | .startPending => t.handStartPending e
  | .withdrawing => if e = .inhibit then t.enterInhibited else t
  | .cranking => t.handCranking e
  | .running => if e = .running then t else t.enterStopped.raise .engineStall
  | .stopPending => t.handStopPending e
  | .inhibited => if e = .running then (t.stopHold.remove .engineInhibited).enterRunning else t
  | .lockedOut => t

/-- An engine state handed to the Negotiator by Topic Intake (R135 to R146); INHIBIT is handed only when confirmed (R110). OFF removes STOP_LATE (R146), and no rule orders that removal and the faults that OFF makes the Negotiator raise: a free choice does (log entry 5). -/
def State.handEngine (s : State) (e : EngineState) : State :=
  if e = .off then s.aroundFault (fun m => m.remove .stopLate) (fun t => t.takeEngine e) else s.takeEngine e

/-- R137, R143: Topic Intake reports that the ENGINE slot has gone STALE. -/
def State.engineStale (s : State) : State :=
  match s.en.state with
  | .lockedOut => s.withEn { s.en with observed := none }
  | .inhibited => (s.withEn { Neg.reset with failed := s.en.failed }).remove .engineInhibited
  | .unknown => s.withEn { Neg.reset with failed := s.en.failed }
  | .stopped => s.withEn { Neg.reset with failed := s.en.failed }
  | .startPending => s.withEn { Neg.reset with failed := s.en.failed }
  | .cranking => s.withEn { Neg.reset with failed := s.en.failed }
  | .running => s.withEn { Neg.reset with failed := s.en.failed }
  | .withdrawing => s.withEn { Neg.reset with failed := s.en.failed }
  | .stopPending => s.withEn { Neg.reset with failed := s.en.failed }

/-- R45, R135: the hand-over of start wanted, stop wanted and handback complete, acting by the state at that moment (R138, R139, R145). -/
def State.handOver (s : State) (start stop handback : Bool) : State :=
  match s.en.state with
  | .stopped => if start then s.withEn { s.en with state := .startPending, ack := some (s.now + 200) } else s
  | .startPending => if start then s else s.withEn { s.en with state := .withdrawing, ack := none, withdrawals := 0 }
  | .running => if stop && handback then s.enterStopPending else s
  | .unknown => s
  | .cranking => s
  | .withdrawing => s
  | .stopPending => s
  | .inhibited => s
  | .lockedOut => s

/-- R140: the withdrawal ends, and the observed engine state decides. -/
def State.endWithdrawal (s : State) : State :=
  let t := s.withEn { s.en with withdrawals := 0 }
  match s.en.observed with
  | some .cranking => t.enterCranking
  | some .running => t.enterRunning
  | some .off => t.enterStopped
  | some .stopping => t.enterStopped
  | some .fault => t.enterStopped
  | some .inhibit => t.enterStopped
  | none => t.enterStopped

/-- R140: the report of a completely sent ENG telegram with the request it carried. -/
def State.engSent (s : State) (r : Request) : State :=
  if s.en.state = .withdrawing ∧ r = .none then
    if 2 ≤ s.en.withdrawals + 1 then s.endWithdrawal
    else s.withEn { s.en with withdrawals := s.en.withdrawals + 1 }
  else s

/-- R148: STOPPED, UNKNOWN and LOCKED_OUT count as stopped while the part winds down. -/
def NegState.isStopped : NegState → Bool
  | .stopped => true
  | .unknown => true
  | .lockedOut => true
  | .startPending => false
  | .cranking => false
  | .running => false
  | .withdrawing => false
  | .stopPending => false
  | .inhibited => false

end Sys2Proof.Machine
end

