-- ==== Sys2Proof/Machine/Schedule.lean ====
section
/-! DEFINITION. The Cycle Scheduler (spec/05): snapshot, start, completion, release; the STATUS build (R170) with them. -/

namespace Sys2Proof.Machine

/-! ### Freshness and the snapshot -/

/-- R105: the freshness state that an age gives under a kind's limits. -/
def freshnessOfAge (fresh hold age : Nat) : Freshness :=
  if age ≤ fresh then .fresh else if age ≤ hold then .held else .stale

/-- R105: the slot with its freshness judged now. The limits are those of the kind's entry in the topic table (R95); a kind without an entry is never accepted. -/
def Slot.judge {α : Type} (lim : Option Consumed) (now : Nat) : Slot α → Slot α
  | .never => .never
  | .received t st x =>
    match lim with
    | some l => .received t (freshnessOfAge l.fresh l.hold (now - t)) x
    | none => .received t st x

/-- R83: every slot with its freshness judged now. -/
def Intake.judged (ti : Intake) (now : Nat) : Slots where
  demand := ti.slots.demand.judge (findKind ti.table .demand) now
  battery := ti.slots.battery.judge (findKind ti.table .battery) now
  engine := ti.slots.engine.judge (findKind ti.table .engine) now
  mgaEcho := ti.slots.mgaEcho.judge (findKind ti.table .mgaEcho) now
  mgbEcho := ti.slots.mgbEcho.judge (findKind ti.table .mgbEcho) now
  brake := ti.slots.brake.judge (findKind ti.table .brake) now
  gearbox := ti.slots.gearbox.judge (findKind ti.table .gearbox) now
  zone := ti.slots.zone.judge (findKind ti.table .zone) now
  derate := ti.slots.derate.judge (findKind ti.table .derate) now

/-- One value for each channel, computed from the channel. -/
def PerChan.map {α β : Type} (f : α → β) (t : PerChan α) : PerChan β := ⟨f t.eng, f t.mga, f t.mgb, f t.fric⟩

/-- R83: the snapshot, a copy of everything a computation reads. -/
def State.snapshot (s : State) : Snapshot where
  slots := s.ti.judged s.now
  gear := s.ti.gear.confirmed
  zone := s.ti.zone.confirmed
  overrides := s.eb
  handshake := PerChan.map (fun ch => ch.hs) s.cu
  shut := PerChan.map (fun ch => ch.shut) s.cu
  neg := s.en.state
  part := s.su.part
  ms := s.ms

/-- What a computation that starts at `now` forms from its snapshot and the configuration in force (R1, R18, R35). -/
def computationFrom (cfg : Cfg) (sn : Snapshot) (now : Nat) : Computation :=
  let e := buildEnvelope cfg sn
  let w := workingValues cfg sn
  ⟨now, sn, w, e, selectMode cfg sn e w⟩

/-- The computation that starts now. -/
def State.newComputation (s : State) : Computation := computationFrom s.cfg s.snapshot s.now

/-! ### Start (R81, R82) -/

/-- The back plan is COMPLETE. -/
def BackPlan.isComplete : BackPlan → Bool
  | .complete _ => true
  | .computing _ => false
  | .empty => false

/-- R82, steps 2 to 4: the record a computation starts in the back plan. -/
def State.newPlan (s : State) (t : Trigger) : Plan :=
  { Plan.blank with
    number := s.cs.nextPlan
    trigger := t
    flags := { PlanFlags.none with
      planDropped := s.cs.back.isComplete
      overrun := s.cs.overrun
      timerStart := t == .timer } }

/-- R82: CADENCE_LOST at a start. -/
def State.cadence (s : State) (t : Trigger) : State :=
  match t with
  | .timer => s.raise .cadenceLost
  | .demand => s.remove .cadenceLost

/-- R82, R33, R80: a computation starts. -/
def State.startComputation (s : State) (t : Trigger) : State :=
  ((s.withCs { s.cs with
      inflight := some s.newComputation
      back := .computing (s.newPlan t)
      nextPlan := s.cs.nextPlan + 1
      overrun := false
      timer := some (s.now + s.cfg.tCycleMax) }).withEb .empty).cadence t

/-- R81: the trigger a pending start holds after another request. -/
def mergeTrigger (held new : Trigger) : Trigger := if new = .demand then .demand else held

/-- R81: a start request. -/
def State.startRequest (s : State) (t : Trigger) : State :=
  if s.working then
    match s.cs.inflight, s.cs.pendingStart with
    | none, _ => s.startComputation t
    | some _, none => s.withCs { s.cs with pendingStart := some t }
    | some _, some p => s.withCs { s.cs with pendingStart := some (mergeTrigger p t), overrun := true }
  else s

/-- R79: the sequence number of an accepted DEMAND telegram. -/
def State.demandAccepted (s : State) (seq : SeqNo) : State :=
  if s.cs.lastSeq = some seq then s
  else (s.withCs { s.cs with lastSeq := some seq }).startRequest .demand

/-! ### Release (R89, R90, R94, R178) -/

/-- R178: a release report; in WINDING_DOWN a zero release sets the mark. -/
def State.releaseReport (s : State) (p : Plan) : State :=
  if s.su.part = .windingDown ∧ p.eng = 0 ∧ p.mga = 0 ∧ p.mgb = 0 then s.withSu { s.su with zeroRelease := true } else s

/-- R90: every grouped channel sends from the front plan, if there is one. -/
def State.sendGrouped (s : State) : State :=
  match s.cs.front with
  | some p => s.buildAll .grouped p
  | none => s

/-- R89: a release event: a swap where the back plan is COMPLETE and nothing is in flight, the grouped sends, and the report of the swap. -/
def State.releaseEvent (s : State) : State :=
  match s.cs.back, s.cs.inflight with
  | .complete p, none => ((s.withCs { s.cs with front := some p, back := .empty }).sendGrouped).releaseReport p
  | .complete _, some _ => s.sendGrouped
  | .computing _, _ => s.sendGrouped
  | .empty, _ => s.sendGrouped

/-! ### Completion (R85) -/

/-- The record a COMPUTING back plan holds. -/
def BackPlan.record : BackPlan → Plan
  | .computing p => p
  | .complete p => p
  | .empty => .blank

/-- R30: the CONFLICT fault of one machine after a plan's completion. -/
def conflictUpdate (m : MachineId) (marked : Bool) (now : Nat) (f : FaultMon) : FaultMon :=
  if marked then f.raise (.conflict m) now else f.remove (.conflict m)

/-- R30: the CONFLICT faults of both machines; no rule orders the two. -/
def State.updateConflicts (s : State) (p : Plan) : State :=
  s.eitherFirst (conflictUpdate .mga p.marks.mga s.now) (conflictUpdate .mgb p.marks.mgb s.now)

/-- R44: handback complete, from the plan's ENG command and the advanced blend record. -/
def handbackComplete (p : Plan) (b : Blend) : Bool := p.eng == 0 && !b.active

/-- R35, R44, R45, R52: the Mode Selector's state after the plan completes. -/
def commitMode (cfg : Cfg) (c : Computation) (p : Plan) : ModeSel where
  mode := p.mode
  lastEng := p.eng
  startCount := c.sel.startCount
  stopCount := c.sel.stopCount
  blend := c.sel.blend.advance cfg.blendStep
  startWanted := c.sel.startWanted
  stopWanted := c.sel.stopWanted
  handback := handbackComplete p (c.sel.blend.advance cfg.blendStep)

/-- R85 step 2: the commit and the hand-over, with the request change it may bring. -/
def State.commit (s : State) (c : Computation) (p : Plan) : State :=
  let m := commitMode s.cfg c p
  let old := s.request
  ((s.withMs m).handOver m.startWanted m.stopWanted m.handback).syncRequest old

/-- R170: the STATUS telegram that reports a plan now. -/
def State.statusOf (s : State) (p : Plan) : StatusTelegram where
  mode := p.mode
  neg := s.en.state
  planNumber := p.number
  flags := p.flags
  shortfall := p.shortfall
  friction := p.friction
  power := p.power
  faultCount := s.fm.list.length
  overflow := s.fm.overflow
  entry := s.fm.rotate.1
  cause := s.su.cause

/-- R93, R170, R171: the STATUS telegram is built into its entry and the rotation index moves on. -/
def State.buildStatus (s : State) (p : Plan) : State :=
  (s.withBi { s.bi with statusQ := some (s.statusOf p) }).withFm { s.fm with rotation := s.fm.rotate.2 }

/-- R85 step 6: a pending start is taken. -/
def State.takePending (s : State) : State :=
  match s.cs.pendingStart with
  | some t => (s.withCs { s.cs with pendingStart := none }).startComputation t
  | none => s

/-- R85, steps 1 to 4, for the plan just filled. -/
def State.finishPlan (s : State) (c : Computation) (p : Plan) : State :=
  let s1 := (s.withCs { s.cs with back := .complete p, inflight := none }).updateConflicts p
  ((s1.commit c p).buildAll .solo p).buildStatus p

end Sys2Proof.Machine
end

