-- ==== Sys2Proof/Machine/Power.lean ====
section
/-! DEFINITION. Start-up Control (spec/11): entry to READY, winding down, sleep, wake and reset. -/

namespace Sys2Proof.Machine

/-- R130: a channel's shut flag from the line's level, for a shut-enabled channel. -/
def shutFlag (enabled level : Bool) (ch : Channel) : Channel := { ch with shut := enabled && level }

/-- R130: each shut-enabled channel takes its shut flag from the level of SHUTDOWN. -/
def State.takeShut (s : State) : State :=
  s.withCu
    { eng := shutFlag s.cfg.shutEnable.eng s.pins.shutdown s.cu.eng
      mga := shutFlag s.cfg.shutEnable.mga s.pins.shutdown s.cu.mga
      mgb := shutFlag s.cfg.shutEnable.mgb s.pins.shutdown s.cu.mgb
      fric := shutFlag s.cfg.shutEnable.fric s.pins.shutdown s.cu.fric }

/-- R166, R176: the configuration faults of the load result, in their order. -/
def State.raiseConfigFaults (s : State) : State :=
  let t :=
    match s.su.result with
    | .default => s.raise .configDefault
    | .clamped w => s.raise (.configClamped w)
    | .good => s
  if t.su.conflict then t.raise .configConflict else t

/-- R178: the part enters WINDING_DOWN. -/
def State.enterWindingDown (s : State) : State :=
  s.withSu { s.su with part := .windingDown, windTimer := some (s.now + 2000), zeroRelease := false }

/-- R88: the level of RELEASE kept as the last level, with release source LINE. -/
def State.sampleRelease (s : State) : State :=
  match s.cfg.releaseSource with
  | .line => s.withCs { s.cs with lastRelease := s.pins.release }
  | .plan => s

/-- R80: the cycle timer started at entry to READY. -/
def State.startCycleTimer (s : State) : State := s.withCs { s.cs with timer := some (s.now + s.cfg.tCycleMax) }

/-- R177: the part enters READY, and goes on at once into WINDING_DOWN where IGN is released. -/
def State.enterReady (s : State) : State :=
  let t := (((s.withSu { s.su with part := .ready, load := .idle }).raiseConfigFaults).startCycleTimer).sampleRelease.takeShut
  if t.pins.ign then t else t.enterWindingDown

/-- Every block but Start-up Control and the topic table at its reset values (R78, R107, R113, R33, R35, R135, R150, R166), the winding-down timer stopped and the mark clear (R177). -/
def State.resetBlocks (s : State) : State :=
  { s with
    su := { s.su with windTimer := none, zeroRelease := false }
    bi := .reset
    ti := .reset s.ti.table
    cs := .reset s.cs.lastRelease
    eb := .empty
    ms := .reset
    cu := .const .reset
    en := .reset
    fm := .reset }

/-- R179, R180: the part wakes: the configuration, the load result and the topic table are kept. -/
def State.wake (s : State) : State :=
  let t := s.resetBlocks
  (t.withSu { t.su with cause := .wake }).enterReady

/-- R174: the load ends with this configuration and result; the topic table is built (R96) and the part enters READY. -/
def State.endLoad (s : State) (cfg : Cfg) (result : LoadResult) : State :=
  let tb := buildTable cfg
  (((s.withCfg cfg).withTi { s.ti with table := tb.1 }).withSu { s.su with result := result, conflict := tb.2 }).enterReady

/-- R174: the load fails, and the defaults are put in force. -/
def State.failLoad (s : State) : State := s.endLoad defaultCfg .default

/-- R175: the result of a load that does not fail. -/
def loadResultOf (ws : List Word) : LoadResult :=
  match firstClamped ws with
  | some w => .clamped w
  | none => .good

/-! ### Sleep -/

/-- R134: a channel at entry to SLEEP; its shut flag goes on following the line. -/
def Channel.sleep (ch : Channel) : Channel := { Channel.reset with shut := ch.shut }

/-- R149: the Negotiator at entry to SLEEP. -/
def Neg.sleep (n : Neg) : Neg := if n.state = .lockedOut then n else { Neg.reset with failed := n.failed }

/-- R86: the Scheduler at entry to SLEEP. -/
def Sched.sleep (c : Sched) : Sched :=
  { c with inflight := none, pendingStart := none, overrun := false, timer := none, back := .empty, front := none }

/-- R164, R156: the Bus Interface at entry to SLEEP; the sequence numbers stay. -/
def Bus.sleep (b : Bus) : Bus := { Bus.reset with seqs := b.seqs, statusSeq := b.statusSeq }

/-- R107: Topic Intake at entry to SLEEP; the removal times keep running. -/
def Intake.sleep (t : Intake) : Intake := { Intake.reset t.table with removals := t.removals }

/-- R173: the faults whose conditions end at entry to SLEEP. -/
def sleepFaults : List FaultId :=
  allKinds.map .stale ++ allChans.map .channelRecovery ++ allChans.map .channelLost ++ [.engineInhibited, .linkSilent, .cadenceLost]

/-- R173: their removal. -/
def FaultMon.sleep (m : FaultMon) : FaultMon := sleepFaults.foldl FaultMon.remove m

/-- R179: the part enters SLEEP, and each block takes its entry actions. -/
def State.enterSleep (s : State) : State :=
  { s with
    su := { s.su with part := .sleep, windTimer := none }
    bi := s.bi.sleep
    ti := s.ti.sleep
    cs := s.cs.sleep
    cu := PerChan.map Channel.sleep s.cu
    en := s.en.sleep
    fm := s.fm.sleep }

/-- R178: the part goes to SLEEP where it winds down with the zero-release mark set and the Negotiator stopped. -/
def State.checkSleep (s : State) : State :=
  if s.su.part = .windingDown ∧ s.su.zeroRelease = true ∧ s.en.state.isStopped = true then s.enterSleep else s

/-- R85, steps 5 and 6: the release of a plan with release source PLAN, and then a pending start. -/
def State.afterPlan (s : State) : State :=
  match s.cfg.releaseSource with
  | .plan => (s.releaseEvent.checkSleep).takePending
  | .line => s.takePending

/-- R85: the computation in flight completes. -/
def State.completeComputation (s : State) (c : Computation) : State :=
  (s.finishPlan c (fillPlan s.cfg c s.cs.back.record)).afterPlan

end Sys2Proof.Machine
end

