-- ==== Sys2Proof/Machine/Receive.lean ====
section
/-! DEFINITION. Reception (spec/09, R158, R159, R165) and Topic Intake (spec/06). -/

namespace Sys2Proof.Machine

/-- R109: one reception into a two-look record. -/
def TwoLook.look {α : Type} [DecidableEq α] (r : TwoLook α) (c : α) : TwoLook α :=
  if r.confirmed = some c then ⟨r.confirmed, none⟩
  else if r.candidate = some c then ⟨some c, none⟩
  else ⟨r.confirmed, some c⟩

/-- R110: one ENGINE reception into the INHIBIT record. -/
def InhibitRecord.look (r : InhibitRecord) (e : EngineState) : InhibitRecord :=
  if e = .inhibit then
    match r with
    | .clear => .candidate
    | .candidate => .confirmed
    | .confirmed => .confirmed
  else .clear

/-- R98, R99: the removal time of a timed fault for a topic is set anew. -/
def setRemoval (rs : List Removal) (f : TimedFault) (topic time : Nat) : List Removal :=
  rs.filter (fun r => !(r.fault == f && r.topic == topic)) ++ [⟨f, topic, time⟩]

/-- R98, R99: a telegram fails the source or the length test. -/
def State.rejectTelegram (s : State) (f : TimedFault) (topic : Nat) : State :=
  (s.raise (timedFaultId f topic)).withTi { s.ti with removals := setRemoval s.ti.removals f topic (s.now + 1000) }

/-- R104: a new value in a slot. -/
def freshSlot {α : Type} (now : Nat) (x : α) : Slot α := .received now .fresh x

/-- R104, R100: the slots with the clamped fields of an accepted telegram in its kind's slot. -/
def writeSlot (sl : Slots) (now : Nat) (k : Kind) (f : Frame) : Slots :=
  match k with
  | .demand => { sl with demand := freshSlot now (numField (f.word 0) (-6000) 6000) }
  | .battery => { sl with battery := freshSlot now (batteryFields f) }
  | .engine => { sl with engine := freshSlot now (engineFields f) }
  | .mgaEcho => { sl with mgaEcho := freshSlot now (machineFields 250 f) }
  | .mgbEcho => { sl with mgbEcho := freshSlot now (machineFields 3000 f) }
  | .brake => { sl with brake := freshSlot now (brakeFields f) }
  | .gearbox => { sl with gearbox := freshSlot now (gearboxFields f) }
  | .zone => { sl with zone := freshSlot now (zoneOfWord (f.word 0)) }
  | .derate => { sl with derate := freshSlot now (derateFields f) }

/-- R103: what an accepted telegram does to WINDOW_INVERTED of its topic. -/
def windowFault (k : Kind) (f : Frame) (now : Nat) (m : FaultMon) : FaultMon :=
  if k = .mgaEcho ∨ k = .mgbEcho then
    if isInverted (f.word 0) (f.word 1) then m.raise (.windowInverted f.topic) now else m.remove (.windowInverted f.topic)
  else m

/-- R103, R104, R107: the slot is written, STALE of the kind removed, and WINDOW_INVERTED brought up to date; no rule orders the two faults. -/
def State.storeTelegram (s : State) (k : Kind) (f : Frame) : State :=
  (s.withTi { s.ti with slots := writeSlot s.ti.slots s.now k f }).eitherFirst
    (fun m => m.remove (.stale k)) (windowFault k f s.now)

/-- R109, R110: the codes of an accepted telegram are taken into two-look and into the INHIBIT record. -/
def State.lookTelegram (s : State) (k : Kind) (f : Frame) : State :=
  match k with
  | .gearbox => s.withTi { s.ti with gear := s.ti.gear.look (gearOfWord (f.word 1)) }
  | .zone => s.withTi { s.ti with zone := s.ti.zone.look (zoneOfWord (f.word 0)) }
  | .engine => s.withTi { s.ti with inhibit := s.ti.inhibit.look (engineStateOf (f.word 0)) }
  | .demand => s
  | .battery => s
  | .mgaEcho => s
  | .mgbEcho => s
  | .brake => s
  | .derate => s

/-- R111: the echo word of a telegram and the applied value handed with it. -/
def echoFields (k : Kind) (f : Frame) : Option (EchoWord × Int) :=
  match k with
  | .engine => some ((engineFields f).echo, (engineFields f).applied)
  | .mgaEcho => some ((machineFields 250 f).echo, (machineFields 250 f).applied)
  | .mgbEcho => some ((machineFields 3000 f).echo, (machineFields 3000 f).applied)
  | .brake => some ((brakeFields f).echo, (brakeFields f).friction)
  | .demand => none
  | .battery => none
  | .gearbox => none
  | .zone => none
  | .derate => none

/-- R111: the echo word goes to the channel of the kind's table entry. -/
def State.echoTelegram (s : State) (e : Consumed) (f : Frame) : State :=
  match e.chan, echoFields e.kind f with
  | some c, some (w, applied) => s.routeEcho c w applied
  | some _, none => s
  | none, _ => s

/-- R110: the engine state is handed to the Negotiator, an INHIBIT only when this reception finds or makes it confirmed. -/
def State.handTelegram (s : State) (k : Kind) (f : Frame) : State :=
  match k with
  | .engine =>
    if engineStateOf (f.word 0) = .inhibit ∧ s.ti.inhibit ≠ .confirmed then s else s.handEngine (engineStateOf (f.word 0))
  | .demand => s
  | .battery => s
  | .mgaEcho => s
  | .mgbEcho => s
  | .brake => s
  | .gearbox => s
  | .zone => s
  | .derate => s

/-- R104: a DEMAND telegram's sequence number goes to the Scheduler. -/
def State.demandTelegram (s : State) (k : Kind) (f : Frame) : State := if k = .demand then s.demandAccepted f.seq else s

/-- R104: a telegram is accepted, as one event. -/
def State.acceptTelegram (s : State) (e : Consumed) (f : Frame) : State :=
  let old := s.request
  let s1 := (s.storeTelegram e.kind f).lookTelegram e.kind f
  (((s1.echoTelegram e f).handTelegram e.kind f).syncRequest old).demandTelegram e.kind f

/-- R97, R98, R99: the topic, source and length tests. -/
def State.takeTelegram (s : State) (f : Frame) : State :=
  match findTopic s.ti.table f.topic with
  | none => s
  | some entry =>
    match entry.consumed with
    | none => s
    | some e =>
      if e.source ≠ 31 ∧ e.source ≠ f.source then s.rejectTelegram .sourceMismatch f.topic
      else if f.payload.length ≠ kindWords e.kind then s.rejectTelegram .lengthError f.topic
      else s.acceptTelegram e f

/-- R158, R159: a good telegram in READY or WINDING_DOWN. -/
def State.hearTelegram (s : State) (f : Frame) : State :=
  if f.source = s.cfg.station then s.raise .stationClash else (s.takeTelegram f).checkSleep

/-- R165, R112: a good telegram in SLEEP. -/
def State.watchTelegram (s : State) (f : Frame) : State :=
  if s.ti.table.any (fun e => e.wake && e.topic == f.topic) then s.wake else s

/-- R157, R158: these are the bits of the attempt under way, the part's own telegram, which it does not receive. That its bits alone tell it from another station's is DEDUCED (log entry 13). -/
def Bus.sends (b : Bus) (bits : List Bool) : Bool :=
  match b.tx with
  | some a => a.bits == bits
  | none => false

/-- R158, R163, R165: the bits of a telegram that began on an idle bus, by the part state. A reception is taken when it comes, also while an attempt is under way (R136, R147); the telegram the part itself sends is not received. -/
def State.receive (s : State) (bits : List Bool) : State :=
  match receiveFrame bits with
  | none => s
  | some f =>
    if s.bi.sends bits then s
    else
      match s.su.part with
      | .loading => s
      | .ready => s.hearTelegram f
      | .windingDown => s.hearTelegram f
      | .sleep => s.watchTelegram f

/-! ### Aging (R105, R107, R110) -/

/-- The age of a slot and its stored freshness, if it has accepted a telegram. -/
def Slot.stamp {α : Type} : Slot α → Option (Nat × Freshness)
  | .never => none
  | .received t st _ => some (t, st)

/-- The acceptance time and stored freshness of a kind's slot. -/
def Slots.stamp (sl : Slots) : Kind → Option (Nat × Freshness)
  | .demand => sl.demand.stamp
  | .battery => sl.battery.stamp
  | .engine => sl.engine.stamp
  | .mgaEcho => sl.mgaEcho.stamp
  | .mgbEcho => sl.mgbEcho.stamp
  | .brake => sl.brake.stamp
  | .gearbox => sl.gearbox.stamp
  | .zone => sl.zone.stamp
  | .derate => sl.derate.stamp

/-- The slot with another freshness state. -/
def Slot.setState {α : Type} (st : Freshness) : Slot α → Slot α
  | .never => .never
  | .received t _ x => .received t st x

/-- The slots with the freshness state of one kind's slot set. -/
def Slots.setState (sl : Slots) (k : Kind) (st : Freshness) : Slots :=
  match k with
  | .demand => { sl with demand := sl.demand.setState st }
  | .battery => { sl with battery := sl.battery.setState st }
  | .engine => { sl with engine := sl.engine.setState st }
  | .mgaEcho => { sl with mgaEcho := sl.mgaEcho.setState st }
  | .mgbEcho => { sl with mgbEcho := sl.mgbEcho.setState st }
  | .brake => { sl with brake := sl.brake.setState st }
  | .gearbox => { sl with gearbox := sl.gearbox.setState st }
  | .zone => { sl with zone := sl.zone.setState st }
  | .derate => { sl with derate := sl.derate.setState st }

/-- R105: the freshness the slot's age gives now, where it differs from the stored one. -/
def State.agedTo (s : State) (k : Kind) : Option Freshness :=
  match s.ti.slots.stamp k, findKind s.ti.table k with
  | some (t, st), some l =>
    let f := freshnessOfAge l.fresh l.hold (s.now - t)
    if f = st then none else some f
  | some _, none => none
  | none, _ => none

/-- R105: the slot becomes HELD, from FRESH when its age first exceeds the fresh limit. -/
def State.becomeHeld (s : State) (k : Kind) : State :=
  match s.ti.slots.stamp k, s.agedTo k with
  | some (_, .fresh), some .held => s.withTi { s.ti with slots := s.ti.slots.setState k .held }
  | _, _ => s

/-- R107, R110, R137: the slot becomes STALE; for ENGINE the INHIBIT record clears and the Negotiator is told. Of STALE raised by Topic Intake and ENGINE_INHIBITED removed by the Negotiator either may be first (R168): a free choice decides (log entry 5). -/
def State.becomeStale (s : State) (k : Kind) : State :=
  match s.agedTo k with
  | some .stale =>
    let t := s.withTi { s.ti with slots := s.ti.slots.setState k .stale }
    if k = .engine then
      (((t.withTi { t.ti with inhibit := .clear }).aroundFault (fun m => m.raise (.stale k) s.now) State.engineStale).syncRequest s.request).checkSleep
    else t.raise (.stale k)
  | some .fresh => s
  | some .held => s
  | none => s

end Sys2Proof.Machine
end

