-- ==== Sys2Proof/Machine/StartupRows.lean ====
section
/-! DEFINITION. Meanings of POWER_ON, RESET_ASSERTED, RESET_RELEASED, LOAD_COMPLETE, LOAD_TIMEOUT, IGN_RELEASED, IGN_ASSERTED and WINDING_DOWN_TIMEOUT. -/

namespace Sys2Proof.Machine

/-- What every meaning answers. -/
abbrev Result := Host.Outcome State Fault Refusal

/-- POWER_ON (R177, R180): every block at its power-on values; the lines keep their levels, and the load begins unless RESET is asserted. -/
def execPowerOn (s : State) : Result :=
  .next { State.reset with
    pins := s.pins
    su := { State.reset.su with load := if s.pins.reset then .held else .reading 0 }
    free := s.free
    pending := s.pending }

/-- RESET_ASSERTED (R177, R180): LOADING with the load not begun; the configuration, its table and its load result are no longer in force (R174). -/
def execResetAsserted (s : State) : Result :=
  let t := s.resetBlocks
  .next { t with
    pins := { s.pins with reset := true }
    cfg := defaultCfg
    su := ⟨.loading, .held, .good, false, none, false, .resetLine⟩
    ti := .reset [] }

/-- RESET_RELEASED (R177): a load that RESET held begins. -/
def execResetReleased (s : State) : Result :=
  let t := s.withPins { s.pins with reset := false }
  match s.su.part, s.su.load with
  | .loading, .held => .next (t.withSu { s.su with load := .reading s.now })
  | .loading, .idle => .next t
  | .loading, .reading _ => .next t
  | .ready, _ => .next t
  | .windingDown, _ => .next t
  | .sleep, _ => .next t

/-- LOAD_COMPLETE (R174, R175): the read of a load under way ends; a good image is put in force, clamped, and otherwise the defaults are. A read that ends more than 50 ms after the load's start has failed. -/
def execLoadComplete (r : ImageRead) (s : State) : Result :=
  match s.su.part, s.su.load with
  | .loading, .reading t =>
    match goodImage r with
    | some ws => if s.now ≤ t + 50 then .next (s.endLoad (cfgOfImage ws) (loadResultOf ws)) else .next s.failLoad
    | none => .next s.failLoad
  | .loading, .held => .next s
  | .loading, .idle => .next s
  | .ready, _ => .next s
  | .windingDown, _ => .next s
  | .sleep, _ => .next s

/-- LOAD_TIMEOUT (R174): 50 ms after the load's start. -/
def execLoadTimeout (s : State) : Result :=
  match s.su.part, s.su.load with
  | .loading, .reading t => if t + 50 ≤ s.now then .next s.failLoad else .next s
  | .loading, .held => .next s
  | .loading, .idle => .next s
  | .ready, _ => .next s
  | .windingDown, _ => .next s
  | .sleep, _ => .next s

/-- IGN_RELEASED (R178). In LOADING, WINDING_DOWN and SLEEP only the level changes. -/
def execIgnReleased (s : State) : Result :=
  let t := s.withPins { s.pins with ign := false }
  match s.su.part with
  | .ready => .next t.enterWindingDown
  | .loading => .next t
  | .windingDown => .next t
  | .sleep => .next t

/-- IGN_ASSERTED (R178, R179): back to READY from WINDING_DOWN, or a wake from SLEEP. -/
def execIgnAsserted (s : State) : Result :=
  let t := s.withPins { s.pins with ign := true }
  match s.su.part with
  | .windingDown => .next (t.withSu { s.su with part := .ready, windTimer := none, zeroRelease := false })
  | .sleep => .next t.wake
  | .loading => .next t
  | .ready => .next t

/-- WINDING_DOWN_TIMEOUT (R178). -/
def execWindingDownTimeout (s : State) : Result :=
  if s.su.part = .windingDown ∧ timerDue s.su.windTimer s.now = true then .next s.enterSleep else .next s

end Sys2Proof.Machine
end

