-- ==== Sys2Proof/Machine/BusRows.lean ====
section
/-! DEFINITION. Meanings of TELEGRAM_RECEIVED, ATTEMPT_START, CONTENTION_LOSS, TRANSMIT_ERROR, SILENT_TIMER_EXPIRY and COMPLETE_SEND. -/

namespace Sys2Proof.Machine

/-- TELEGRAM_RECEIVED (R158, R163, R165). -/
def execTelegramReceived (bits : List Bool) (s : State) : Result := .next (s.receive bits)

/-- R162: the queue with a telegram's entry emptied. -/
def Bus.take (b : Bus) : Outgoing → Bus
  | .setpoint c _ => { b with queue := b.queue.set c none }
  | .status _ => { b with statusQ := none }

/-- R162: the chosen telegram leaves its entry for the transmitter, with its sequence number and check written. -/
def State.beginAttempt (s : State) (t : Outgoing) : State :=
  s.withBi { s.bi.take t with tx := some (t.attempt s.cfg (s.bi.seqOf t)) }

/-- ATTEMPT_START (R153, R161, R162): with the link ACTIVE, the part READY or WINDING_DOWN, no attempt under way and a telegram waiting. -/
def execAttemptStart (s : State) : Result :=
  if s.working = true ∧ s.bi.link = .active ∧ s.bi.tx = none then
    match s.bi.choose s.cfg with
    | some t => .next (s.beginAttempt t)
    | none => .next s
  else .next s

/-- R162: an attempt that fails returns its telegram to an empty entry, an ENG telegram with the request supplied now, or discards it for a newer one. -/
def State.returnTelegram (s : State) (t : Outgoing) : State :=
  match t with
  | .setpoint c sp =>
    match s.bi.queue.get c with
    | none => s.withWaiting c (some ⟨sp.value, sp.poll, s.requestFor c⟩)
    | some _ => s
  | .status st =>
    match s.bi.statusQ with
    | none => s.withBi { s.bi with statusQ := some st }
    | some _ => s

/-- CONTENTION_LOSS (R154): the part withdraws; neither the error count nor a sequence number changes. -/
def execContentionLoss (s : State) : Result :=
  match s.bi.tx with
  | some a => .next ((s.withBi { s.bi with tx := none }).returnTelegram a.telegram)
  | none => .next s

/-- R155, R156: one more transmit error; at the sixteenth the link goes SILENT for 50 ms. -/
def State.countError (s : State) : State :=
  let t := s.withBi { s.bi with errors := s.bi.errors + 1 }
  if 16 ≤ t.bi.errors then (t.withBi { t.bi with link := .silent, silentTimer := some (t.now + 50) }).raise .linkSilent else t

/-- TRANSMIT_ERROR (R155): the attempt is aborted and counted. -/
def execTransmitError (s : State) : Result :=
  match s.bi.tx with
  | some a => .next (((s.withBi { s.bi with tx := none }).returnTelegram a.telegram).countError)
  | none => .next s

/-- SILENT_TIMER_EXPIRY (R156): the link is ACTIVE again, its count 0, and LINK_SILENT is removed, so that the next SILENT period makes a new entry with an occurrence count of 1 (R168). The worked case of spec/09 on a bus the part cannot use says instead that it is raised again with its occurrences increased. DESIGN CHOICE (log entry 19): the rules decide. -/
def execSilentTimerExpiry (s : State) : Result :=
  if timerDue s.bi.silentTimer s.now then
    .next ((s.withBi { s.bi with link := .active, errors := 0, silentTimer := none }).remove .linkSilent)
  else .next s

/-- R157: the next sequence number of a telegram's kind advanced. -/
def Bus.advance (b : Bus) : Outgoing → Bus
  | .setpoint c _ => { b with seqs := b.seqs.set c (b.seqs.get c + 1) }
  | .status _ => { b with statusSeq := b.statusSeq + 1 }

/-- R157: the Bus Interface's own part of a complete send. -/
def State.sendDone (s : State) (a : Attempt) : State :=
  s.withBi { s.bi.advance a.telegram with errors := 0, tx := none }

/-- R157, R118, R140: the reports of a complete send, to the channel and then, for ENG, to the Negotiator. -/
def State.reportSend (s : State) (a : Attempt) : State :=
  match a.telegram with
  | .status _ => s
  | .setpoint .eng sp =>
    let t := s.channelSent .eng a.seq sp.value
    (t.engSent sp.request).syncRequest t.request
  | .setpoint .mga sp => s.channelSent .mga a.seq sp.value
  | .setpoint .mgb sp => s.channelSent .mgb a.seq sp.value
  | .setpoint .fric sp => s.channelSent .fric a.seq sp.value

/-- COMPLETE_SEND (R157). -/
def execCompleteSend (s : State) : Result :=
  match s.bi.tx with
  | some a => .next ((s.sendDone a).reportSend a).checkSleep
  | none => .next s

end Sys2Proof.Machine
end

