-- ==== Sys2Proof/Machine/CycleRows.lean ====
section
/-! DEFINITION. Meanings of CYCLE_TIMER_EXPIRY and COMPUTATION_COMPLETE. -/

namespace Sys2Proof.Machine

/-- CYCLE_TIMER_EXPIRY (R80): the timer stops and a start request with trigger TIMER is made; a start sets the timer running again. -/
def execCycleTimerExpiry (s : State) : Result :=
  if timerDue s.cs.timer s.now then .next ((s.withCs { s.cs with timer := none }).startRequest .timer) else .next s

/-- COMPUTATION_COMPLETE (R85): the computation in flight completes. -/
def execComputationComplete (s : State) : Result :=
  match s.cs.inflight with
  | some c => .next (s.completeComputation c)
  | none => .next s

end Sys2Proof.Machine
end

