-- ==== Sys2Proof/Machine/LineRows.lean ====
section
/-! DEFINITION. Meanings of SHUTDOWN_ASSERTED, SHUTDOWN_RELEASED and RELEASE_EDGE. -/

namespace Sys2Proof.Machine

/-- R128: each shut-enabled channel builds a zero telegram; its shut flag is set, so the value offered plays no part. -/
def State.buildShut (s : State) : State :=
  allChans.foldl (fun t c => if t.cfg.shutEnable.get c then t.build c 0 else t) s

/-- SHUTDOWN_ASSERTED (R128, R130): the shut flags follow the line where a configuration is in force, and in READY and WINDING_DOWN the shut channels build 0. -/
def execShutdownAsserted (s : State) : Result :=
  let t := s.withPins { s.pins with shutdown := true }
  match s.su.part with
  | .loading => .next t
  | .ready => .next t.takeShut.buildShut
  | .windingDown => .next t.takeShut.buildShut
  | .sleep => .next t.takeShut

/-- SHUTDOWN_RELEASED (R129, R130): the shut flags clear, and no telegram is built. -/
def execShutdownReleased (s : State) : Result :=
  let t := s.withPins { s.pins with shutdown := false }
  match s.su.part with
  | .loading => .next t
  | .ready => .next t.takeShut
  | .windingDown => .next t.takeShut
  | .sleep => .next t.takeShut

/-- R88: an edge to this level is of the selected kind. -/
def edgeSelected (e : ReleaseEdge) (asserted : Bool) : Bool :=
  match e with
  | .rising => asserted
  | .falling => !asserted
  | .both => true

/-- R88: the filtered level of RELEASE changes, with release source LINE in READY or WINDING_DOWN. -/
def State.releaseLevel (s : State) (asserted : Bool) : State :=
  if s.cs.lastRelease = asserted then s
  else
    let t := s.withCs { s.cs with lastRelease := asserted }
    if edgeSelected s.cfg.releaseEdge asserted then t.releaseEvent.checkSleep else t

/-- RELEASE_EDGE (R87, R88): with release source PLAN, and in LOADING and SLEEP, the line is not watched. -/
def execReleaseEdge (asserted : Bool) (s : State) : Result :=
  let t := s.withPins { s.pins with release := asserted }
  match s.su.part, s.cfg.releaseSource with
  | .ready, .line => .next (t.releaseLevel asserted)
  | .windingDown, .line => .next (t.releaseLevel asserted)
  | .ready, .plan => .next t
  | .windingDown, .plan => .next t
  | .loading, _ => .next t
  | .sleep, _ => .next t

end Sys2Proof.Machine
end

