-- ==== Sys2Proof/Machine/TimerRows.lean ====
section
/-! DEFINITION. Meanings of ECHO_DEADLINE_EXPIRY, ACK_TIMER_EXPIRY, START_TIMER_EXPIRY, STOP_TIMER_EXPIRY, INHIBIT_HOLD_EXPIRY, SLOT_HELD, SLOT_STALE and FAULT_REMOVAL_TIME. -/

namespace Sys2Proof.Machine

/-- ECHO_DEADLINE_EXPIRY (R121). -/
def execEchoDeadlineExpiry (c : Chan) (s : State) : Result :=
  if timerDue (s.cu.get c).deadline s.now then .next (s.expireDeadline c) else .next s

/-- ACK_TIMER_EXPIRY (R139): in START_PENDING a failed start, then STOPPED. -/
def execAckTimerExpiry (s : State) : Result :=
  if s.en.state = .startPending ∧ timerDue s.en.ack s.now = true then
    .next ((s.stopAck.failedStart State.enterStopped).syncRequest s.request).checkSleep
  else .next s

/-- START_TIMER_EXPIRY (R141): in CRANKING a failed start, then STOP_PENDING with the stop timer started. -/
def execStartTimerExpiry (s : State) : Result :=
  if s.en.state = .cranking ∧ timerDue s.en.start s.now = true then
    .next ((s.stopStart.failedStart State.enterStopPending).syncRequest s.request).checkSleep
  else .next s

/-- STOP_TIMER_EXPIRY (R146): in STOP_PENDING, STOP_LATE is raised and the stop goes on being asked; the timer runs once. -/
def execStopTimerExpiry (s : State) : Result :=
  if s.en.state = .stopPending ∧ timerDue s.en.stop s.now = true then .next (s.stopStop.raise .stopLate) else .next s

/-- INHIBIT_HOLD_EXPIRY (R144): from INHIBITED to STOPPED. -/
def execInhibitHoldExpiry (s : State) : Result :=
  if s.en.state = .inhibited ∧ timerDue s.en.hold s.now = true then
    .next ((s.stopHold.enterStopped).remove .engineInhibited).checkSleep
  else .next s

/-- SLOT_HELD (R105). -/
def execSlotHeld (k : Kind) (s : State) : Result := .next (s.becomeHeld k)

/-- SLOT_STALE (R105, R107). -/
def execSlotStale (k : Kind) (s : State) : Result := .next (s.becomeStale k)

/-- The removal time of a timed fault for a topic has been reached (R98, R99). -/
def removalDue (f : TimedFault) (topic now : Nat) (r : Removal) : Bool :=
  r.fault == f && r.topic == topic && decide (r.time ≤ now)

/-- FAULT_REMOVAL_TIME (R98, R99, R107). -/
def execFaultRemovalTime (f : TimedFault) (topic : Nat) (s : State) : Result :=
  if s.ti.removals.any (removalDue f topic s.now) then
    .next ((s.withTi { s.ti with removals := s.ti.removals.filter (fun r => !removalDue f topic s.now r) }).remove (timedFaultId f topic))
  else .next s

end Sys2Proof.Machine
end

