-- ==== Sys2Proof/Machine/Dispatch.lean ====
section
/-! DEFINITION. The meaning of each command. -/

namespace Sys2Proof.Machine

def exec (i : Instr) (s : State) : Host.Outcome State Fault Refusal :=
  match i with
  | .powerOn => Sys2Proof.Machine.execPowerOn s
  | .resetAsserted => Sys2Proof.Machine.execResetAsserted s
  | .resetReleased => Sys2Proof.Machine.execResetReleased s
  | .loadComplete r => Sys2Proof.Machine.execLoadComplete r s
  | .loadTimeout => Sys2Proof.Machine.execLoadTimeout s
  | .ignReleased => Sys2Proof.Machine.execIgnReleased s
  | .ignAsserted => Sys2Proof.Machine.execIgnAsserted s
  | .windingDownTimeout => Sys2Proof.Machine.execWindingDownTimeout s
  | .shutdownAsserted => Sys2Proof.Machine.execShutdownAsserted s
  | .shutdownReleased => Sys2Proof.Machine.execShutdownReleased s
  | .releaseEdge asserted => Sys2Proof.Machine.execReleaseEdge asserted s
  | .telegramReceived bits => Sys2Proof.Machine.execTelegramReceived bits s
  | .cycleTimerExpiry => Sys2Proof.Machine.execCycleTimerExpiry s
  | .computationComplete => Sys2Proof.Machine.execComputationComplete s
  | .attemptStart => Sys2Proof.Machine.execAttemptStart s
  | .contentionLoss => Sys2Proof.Machine.execContentionLoss s
  | .transmitError => Sys2Proof.Machine.execTransmitError s
  | .silentTimerExpiry => Sys2Proof.Machine.execSilentTimerExpiry s
  | .completeSend => Sys2Proof.Machine.execCompleteSend s
  | .echoDeadlineExpiry c => Sys2Proof.Machine.execEchoDeadlineExpiry c s
  | .ackTimerExpiry => Sys2Proof.Machine.execAckTimerExpiry s
  | .startTimerExpiry => Sys2Proof.Machine.execStartTimerExpiry s
  | .stopTimerExpiry => Sys2Proof.Machine.execStopTimerExpiry s
  | .inhibitHoldExpiry => Sys2Proof.Machine.execInhibitHoldExpiry s
  | .slotHeld k => Sys2Proof.Machine.execSlotHeld k s
  | .slotStale k => Sys2Proof.Machine.execSlotStale k s
  | .faultRemovalTime f topic => Sys2Proof.Machine.execFaultRemovalTime f topic s

end Sys2Proof.Machine
end

