-- ==== Sys2Proof/Machine/Tick.lean ====
section
/-! DEFINITION. One millisecond of the time base: which timed events are due, and the order they join the queue in (log entries 2 and 5). -/

namespace Sys2Proof.Machine

/-- A command where a condition holds. -/
def dueIf (b : Bool) (i : Instr) : List Instr := if b then [i] else []

/-- R174: the 50 ms of a load are up. -/
def loadDue (s : State) : Bool :=
  match s.su.part, s.su.load with
  | .loading, .reading t => decide (t + 50 ≤ s.now)
  | .loading, .held => false
  | .loading, .idle => false
  | .ready, _ => false
  | .windingDown, _ => false
  | .sleep, _ => false

/-- R82: a computation completes at most 1 ms after its start. -/
def completionDue (s : State) : Bool :=
  match s.cs.inflight with
  | some c => decide (c.startedAt + 1 ≤ s.now)
  | none => false

/-- R105: the aging of one kind's slot that is due. -/
def agingDue (s : State) (k : Kind) : List Instr :=
  match s.agedTo k with
  | some .held => [.slotHeld k]
  | some .stale => [.slotStale k]
  | some .fresh => []
  | none => []

/-- The timed events that are due now. -/
def State.dueEvents (s : State) : List Instr :=
  dueIf (loadDue s) .loadTimeout ++
  dueIf (timerDue s.su.windTimer s.now) .windingDownTimeout ++
  dueIf (completionDue s) .computationComplete ++
  dueIf (timerDue s.cs.timer s.now) .cycleTimerExpiry ++
  dueIf (timerDue s.bi.silentTimer s.now) .silentTimerExpiry ++
  allChans.flatMap (fun c => dueIf (timerDue (s.cu.get c).deadline s.now) (.echoDeadlineExpiry c)) ++
  dueIf (timerDue s.en.ack s.now) .ackTimerExpiry ++
  dueIf (timerDue s.en.start s.now) .startTimerExpiry ++
  dueIf (timerDue s.en.stop s.now) .stopTimerExpiry ++
  dueIf (timerDue s.en.hold s.now) .inhibitHoldExpiry ++
  allKinds.flatMap (agingDue s) ++
  s.ti.removals.flatMap (fun r => dueIf (decide (r.time ≤ s.now)) (.faultRemovalTime r.fault r.topic))

/-- The list in an order that free choices pick, and how many were made; a list of one has only one order. -/
def shuffle : Nat → Nat → List Instr → List Instr × Nat
  | 0, n, l => (l, n)
  | _ + 1, n, [] => ([], n)
  | _ + 1, n, [x] => ([x], n)
  | k + 1, n, x :: y :: l =>
    let all := x :: y :: l
    let i := Config.freeChoice n % all.length
    let r := shuffle k (n + 1) (all.eraseIdx i)
    (all.getD i x :: r.1, r.2)

/-- One millisecond passes, and the timed events then due join the empty queue. -/
def State.tick (s : State) : State :=
  let t := s.withNow (s.now + 1)
  let r := shuffle t.dueEvents.length t.free t.dueEvents
  (t.withPending r.1).withFree r.2

end Sys2Proof.Machine
end

