-- ==== Sys2Proof/Safety.lean ====
section
/-! DEFINITION. What a sound state of the part is: the laws the manual says the part keeps, block by block, in the terms the statements use. -/

namespace Sys2Proof.Machine

/-- A property of every channel. -/
abbrev EveryChan (P : Chan → Prop) : Prop := P .eng ∧ P .mga ∧ P .mgb ∧ P .fric

/-- A property of every kind. -/
abbrev EveryKind (P : Kind → Prop) : Prop :=
  P .demand ∧ P .battery ∧ P .engine ∧ P .mgaEcho ∧ P .mgbEcho ∧ P .brake ∧ P .gearbox ∧ P .zone ∧ P .derate

/-- A value within a range, both ends included. -/
abbrev Between (lo hi x : Int) : Prop := lo ≤ x ∧ x ≤ hi

/-- A count within a range, both ends included. -/
abbrev BetweenNat (lo hi x : Nat) : Prop := lo ≤ x ∧ x ≤ hi

/-- A bound that is open or within a range. -/
abbrev BoundWithin (lo hi : Int) (b : Option Int) : Prop := ∀ x ∈ b, Between lo hi x

/-! ### Configuration (R4, R27, R114, R175, R186) -/

/-- The fields of the configuration that have a range lie in it, and no hold limit lies below its fresh limit. -/
structure CfgOk (c : Cfg) : Prop where
  station : c.station ≤ 30
  topic : EveryKind (fun k => BetweenNat 1 511 (c.topic.get k))
  source : EveryKind (fun k => c.source.get k ≤ 31)
  outTopic : EveryChan (fun ch => BetweenNat 1 511 (c.outTopic.get ch))
  ownTopics : BetweenNat 1 511 c.statusTopic ∧ BetweenNat 1 511 c.wakeTopic
  fresh : EveryKind (fun k => BetweenNat 10 1000 (c.fresh.get k))
  hold : EveryKind (fun k => BetweenNat 10 5000 (c.hold.get k) ∧ c.fresh.get k ≤ c.hold.get k)
  echo : BetweenNat 10 200 c.echoTimeout ∧ BetweenNat 1 7 c.nRetry
  cycle : BetweenNat 12 60 c.tCycleMax ∧ BetweenNat 1 32 c.blendStep
  charge : c.sLow ≤ 1000 ∧ c.sHigh ≤ 1000
  weights : c.wLo ≤ 32 ∧ c.wMid ≤ 32 ∧ c.wHi ≤ 32
  dwell : c.nStart ≤ 15 ∧ c.nStop ≤ 31
  powers : c.pEv ≤ 1500 ∧ c.pEvStop ≤ 1500
  genset : c.tg ≤ 300
  efficiency : BetweenNat 700 990 c.etaA ∧ BetweenNat 700 990 c.etaB
  caps : c.capE ≤ 420 ∧ c.capA ≤ 250 ∧ c.capB ≤ 3000 ∧ c.capC ≤ 1000 ∧ c.capD ≤ 1500
  speeds : BetweenNat 500 1500 c.vCap ∧ BetweenNat 3000 7000 c.nCap
  demand : BetweenNat 1000 6000 c.dCeiling
  startTimeout : BetweenNat 500 3000 c.startTimeout

/-! ### Topic Intake (R95, R100) -/

/-- L11: no two entries of the topic table hold the same topic number, and there are at most ten (R95). -/
abbrev TableOk (t : List TopicEntry) : Prop := (t.map (·.topic)).Nodup ∧ t.length ≤ 10

/-- A property of a slot's fields, if it holds any. -/
def Slot.all {α : Type} (p : α → Bool) : Slot α → Bool
  | .never => true
  | .received _ _ x => p x

/-- BATTERY fields in their intake ranges. -/
def BatteryFields.ok (f : BatteryFields) : Bool :=
  decide (BoundWithin 0 1500 f.dis ∧ BoundWithin 0 1000 f.chg ∧ Between 0 1000 f.soc)

/-- ENGINE fields in their intake ranges. -/
def EngineFields.ok (f : EngineFields) : Bool :=
  decide (BoundWithin 0 420 f.teMax ∧ Between 0 7000 f.crankSpeed ∧ Between 0 420 f.applied)

/-- MGA_ECHO (`limit` 250) or MGB_ECHO (`limit` 3000) fields in their intake ranges. -/
def MachineFields.ok (limit : Int) (f : MachineFields) : Bool :=
  decide (BoundWithin (-limit) 0 f.wmin ∧ BoundWithin 0 limit f.wmax ∧ Between (-limit) limit f.applied)

/-- BRAKE fields in their intake ranges. -/
def BrakeFields.ok (f : BrakeFields) : Bool :=
  decide (BoundWithin 0 4000 f.rb ∧ Between 0 1500 f.axleSpeed ∧ Between (-14400) 0 f.friction)

/-- GEARBOX fields in their intake ranges (R102). -/
def GearboxFields.ok (f : GearboxFields) : Bool := decide (f.ratio = 0 ∨ Between 250 2000 f.ratio)

/-- DERATE fields in their intake ranges. -/
def DerateFields.ok (f : DerateFields) : Bool := decide (Between 0 1000 f.dB ∧ Between 0 1000 f.dBat)

/-- R100: every slot's fields lie in their intake ranges. -/
def Slots.ok (sl : Slots) : Bool :=
  sl.demand.all (fun d => decide (Between (-6000) 6000 d)) && sl.battery.all BatteryFields.ok && sl.engine.all EngineFields.ok &&
  sl.mgaEcho.all (MachineFields.ok 250) && sl.mgbEcho.all (MachineFields.ok 3000) && sl.brake.all BrakeFields.ok &&
  sl.gearbox.all GearboxFields.ok && sl.derate.all DerateFields.ok

/-! ### Fault Monitor (R166, L10) -/

/-- L10 with the ranges of R166: at most 16 entries, no two of the same fault, counts of 1 to 255; the overflow flag only beside a full list; the degrading set a set of degrading faults. -/
abbrev FaultsOk (m : FaultMon) : Prop :=
  m.list.length ≤ 16 ∧ (m.list.map (·.id)).Nodup ∧ (∀ e ∈ m.list, BetweenNat 1 255 e.count) ∧ m.rotation ≤ 15 ∧
  (m.overflow = true → m.list.length = 16) ∧ m.degrading.Nodup ∧ (∀ f ∈ m.degrading, f.isDegrading = true)

/-! ### Channels (R113, R120, R122, L7, L8) -/

/-- L8 and R122: how the handshake state, the list and the counts of a channel go together, for `n` the configured N_retry. -/
abbrev HandshakeOk (n : Nat) (ch : Channel) : Prop :=
  ch.retry ≤ n ∧ (ch.retry = n ↔ ch.hs = .lost) ∧ ((ch.hs = .idle ∨ ch.hs = .active) → ch.retry = 0) ∧
  (ch.hs = .recovery → 1 ≤ ch.retry) ∧ ch.readm ≤ 1 ∧ (ch.hs ≠ .lost → ch.readm = 0) ∧ (ch.hs = .idle → ch.list = [])

/-- R120: the deadline is the sent time of the oldest entry plus the echo timeout, and absent while the list is empty. -/
abbrev DeadlineOk (timeout : Nat) (ch : Channel) : Prop := ch.deadline = ch.list.head?.map (fun e => e.time + timeout)

/-- The `n` sequence numbers before `next`, oldest first. -/
def lastSeqs (next : SeqNo) (n : Nat) : List SeqNo := (List.range n).map (fun i => next - BitVec.ofNat 4 (n - i))

/-- L7: at most 4 entries, holding the latest of the channel's sequence numbers in the order they were sent. -/
abbrev ListOk (next : SeqNo) (ch : Channel) : Prop := ch.list.length ≤ 4 ∧ ch.list.map (·.seq) = lastSeqs next ch.list.length

/-- R162: an attempt carries the next sequence number of its kind. -/
abbrev AttemptOk (b : Bus) : Prop := ∀ a ∈ b.tx, a.seq = b.seqOf a.telegram

/-! ### Engine Negotiator (R135, L12) -/

/-- L12, and each timer runs only in the state it belongs to (R137 to R146). -/
abbrev NegOk (n : Neg) : Prop :=
  n.failed ≤ 3 ∧ (n.state = .lockedOut ↔ n.failed = 3) ∧ n.withdrawals ≤ 1 ∧
  (n.ack.isSome = true ↔ n.state = .startPending) ∧ (n.start.isSome = true ↔ n.state = .cranking) ∧
  (n.stop.isSome = true → n.state = .stopPending) ∧ (n.hold.isSome = true ↔ n.state = .inhibited)

/-! ### Mode Selector (R35, R47, L9) -/

/-- R47: the origin is an engine command of 0 to 420 and the factor lies in 1 to 32 while the blend is active, and both are 0 while it is not. -/
abbrev BlendOk (b : Blend) : Prop :=
  if b.active = true then Between 0 420 b.origin ∧ BetweenNat 1 32 b.factor else b.origin = 0 ∧ b.factor = 0

/-- R35, R47: the last engine command and the dwell counters in their ranges, and the blend record sound. -/
abbrev ModeSelOk (m : ModeSel) : Prop := Between 0 420 m.lastEng ∧ m.startCount ≤ 15 ∧ m.stopCount ≤ 31 ∧ BlendOk m.blend

/-- What the selection of a computation in flight will commit is sound (R35, R47). -/
abbrev SelectionOk (s : State) : Prop :=
  ∀ c ∈ s.cs.inflight, c.sel.startCount ≤ 15 ∧ c.sel.stopCount ≤ 31 ∧ BlendOk c.sel.blend

/-! ### Bus Interface (R150, R155, R156) -/

/-- R150, R153, R155, R156: the error count stays at most 16, the link is SILENT exactly when it has reached 16, the silent timer runs exactly then, and no attempt is under way then. -/
abbrev LinkOk (b : Bus) : Prop :=
  b.errors ≤ 16 ∧ (b.errors = 16 ↔ b.link = .silent) ∧ (b.silentTimer.isSome = true ↔ b.link = .silent) ∧
  (b.link = .silent → b.tx = none)

/-! ### Cycle Scheduler (R78, R84) and plans (R67, R69) -/

/-- The back plan is COMPUTING. -/
def BackPlan.isComputing : BackPlan → Bool
  | .computing _ => true
  | .complete _ => false
  | .empty => false

/-- R81, R84: the back plan is COMPUTING exactly while a computation is in flight, and a pending start waits only behind one. -/
abbrev SchedOk (c : Sched) : Prop :=
  c.inflight.isSome = c.back.isComputing ∧ (c.pendingStart.isSome = true → c.inflight.isSome = true)

/-- L1 and L2 (R67) for one plan. -/
abbrev Plan.Balanced (p : Plan) : Prop :=
  p.dc = p.engAxle + p.mgaAxle + p.mgb + p.friction + p.shortfall ∧ p.friction ≤ 0 ∧ 0 ≤ p.shortfall ∧
  (p.friction = 0 ∨ p.shortfall = 0)

/-- The windows of L3 (R69) for one plan. -/
abbrev Plan.Within (p : Plan) : Prop :=
  p.windows.eng.has p.eng = true ∧ p.windows.mga.has p.mga = true ∧ p.windows.mgb.has p.mgb = true

/-- A property of every COMPLETE plan the part holds, in the back buffer and in the front. -/
abbrev CompletePlans (P : Plan → Prop) (s : State) : Prop :=
  (∀ p, s.cs.back = .complete p → P p) ∧ (∀ p ∈ s.cs.front, P p)

/-- R1, R18, R83: a computation in flight is the one its snapshot gives under the configuration in force, and the snapshot's fields lie in their intake ranges. -/
abbrev ComputationOk (s : State) : Prop :=
  ∀ c ∈ s.cs.inflight, c = computationFrom s.cfg c.snap c.startedAt ∧ c.snap.slots.ok = true

/-! ### Whole-part properties -/

/-- R136: a waiting ENG telegram carries the request the Negotiator supplies. -/
abbrev RequestOk (s : State) : Prop := ∀ sp ∈ s.bi.queue.eng, sp.request = s.request

/-- A channel that hears and sends nothing: IDLE, its list empty, its deadline absent, its counts 0 (R113, R134). -/
abbrev ChannelQuiet (ch : Channel) : Prop := ch = { Channel.reset with shut := ch.shut }

/-- R86, R107, R134, R149, R150, R163, R164, R177: outside READY and WINDING_DOWN the part sends, plans and hears nothing. -/
structure Quiet (s : State) : Prop where
  queue : s.bi.queue = .const none ∧ s.bi.statusQ = none ∧ s.bi.tx = none
  link : s.bi.errors = 0 ∧ s.bi.link = .active ∧ s.bi.silentTimer = none
  slots : s.ti.slots = .reset
  scheduler : s.cs.inflight = none ∧ s.cs.timer = none ∧ s.cs.pendingStart = none ∧ s.cs.overrun = false
  plans : s.cs.back = .empty ∧ s.cs.front = none
  channels : EveryChan (fun c => ChannelQuiet (s.cu.get c))
  negotiator : s.en.state = .unknown ∨ s.en.state = .lockedOut
  timers : s.en.ack = none ∧ s.en.start = none ∧ s.en.stop = none ∧ s.en.hold = none ∧ s.su.windTimer = none

/-- The part is quiet in LOADING and in SLEEP. -/
abbrev QuietOk (s : State) : Prop := s.working = false → Quiet s

/-- In LOADING every channel is at its reset values, its shut flag clear (R113, R130). -/
abbrev LoadingOk (s : State) : Prop := s.su.part = .loading → s.cu = .const .reset

/-- What the other invariants rest on: the Negotiator's timers go with its state, and the part is quiet where it does not work. -/
structure Settled (s : State) : Prop where
  neg : NegOk s.en
  quiet : QuietOk s
  loading : LoadingOk s

/-- R173, R127: CHANNEL_LOST is in the degrading set exactly for the channels that are LOST. -/
abbrev LostFaultOk (s : State) : Prop :=
  EveryChan (fun c => (s.cu.get c).hs = .lost ↔ .channelLost c ∈ s.fm.degrading)

/-- R130: the shut flag of a channel is set exactly when it is shut-enabled and SHUTDOWN is asserted, wherever a configuration is in force. -/
abbrev ShutOk (s : State) : Prop :=
  s.su.part ≠ .loading → EveryChan (fun c => (s.cu.get c).shut = (s.cfg.shutEnable.get c && s.pins.shutdown))

/-- R178: the winding-down timer runs exactly while the part winds down. -/
abbrev WindingOk (s : State) : Prop := s.su.windTimer.isSome = true ↔ s.su.part = .windingDown

/-- R178, R148: the part winds down with the zero-release mark set and the Negotiator counted as stopped: it enters SLEEP at once. -/
abbrev SleepDue (s : State) : Prop :=
  s.su.part = .windingDown ∧ s.su.zeroRelease = true ∧ (s.en.state = .stopped ∨ s.en.state = .unknown ∨ s.en.state = .lockedOut)

/-- R178: no sleep is overdue. -/
abbrev NoSleepDue (s : State) : Prop := ¬ SleepDue s

/-- The part sends, plans and hears: it is READY or WINDING_DOWN. -/
abbrev AtWork (s : State) : Prop := s.su.part = .ready ∨ s.su.part = .windingDown

/-! ### What a start-over and a sleep leave -/

/-- The values that power-on, a RESET assertion and a wake give to every block but Start-up Control (R33, R35, R78, R107, R109, R110, R113, R135, R150, R166), the shut flags apart. -/
structure AtReset (s : State) : Prop where
  queue : s.bi.queue = .const none ∧ s.bi.statusQ = none ∧ s.bi.tx = none
  link : s.bi.errors = 0 ∧ s.bi.link = .active ∧ s.bi.silentTimer = none
  seqs : s.bi.seqs = .const 0 ∧ s.bi.statusSeq = 0
  slots : EveryKind (fun k => s.ti.slots.stamp k = none)
  looks : s.ti.gear = ⟨none, none⟩ ∧ s.ti.zone = ⟨none, none⟩ ∧ s.ti.inhibit = .clear ∧ s.ti.removals = []
  scheduler : s.cs.inflight = none ∧ s.cs.pendingStart = none ∧ s.cs.overrun = false ∧ s.cs.lastSeq = none ∧ s.cs.nextPlan = 0
  plans : s.cs.back = .empty ∧ s.cs.front = none
  overrides : s.eb = ⟨none, none, none⟩
  mode : s.ms = ⟨.safe, 0, 0, 0, ⟨false, 0, 0⟩, false, false, false⟩
  channels : EveryChan (fun c => ChannelQuiet (s.cu.get c))
  negotiator : s.en = ⟨.unknown, none, 0, 0, none, none, none, none⟩

/-- R173: the faults that the entry to SLEEP removes. -/
def FaultId.endsAtSleep : FaultId → Bool
  | .stale _ => true
  | .channelRecovery _ => true
  | .channelLost _ => true
  | .engineInhibited => true
  | .linkSilent => true
  | .cadenceLost => true
  | .windowInverted _ => false
  | .sourceMismatch _ => false
  | .lengthError _ => false
  | .conflict _ => false
  | .startFailed => false
  | .engineLockedOut => false
  | .engineStall => false
  | .stopLate => false
  | .stationClash => false
  | .configDefault => false
  | .configClamped _ => false
  | .configConflict => false

/-- R179: what the entry to SLEEP makes of the part `s`. -/
structure AsleepFrom (s t : State) : Prop where
  part : t.su.part = .sleep ∧ t.su.windTimer = none ∧ t.su.result = s.su.result ∧ t.su.conflict = s.su.conflict ∧ t.su.cause = s.su.cause
  queue : t.bi.queue = .const none ∧ t.bi.statusQ = none ∧ t.bi.tx = none
  link : t.bi.errors = 0 ∧ t.bi.link = .active ∧ t.bi.silentTimer = none
  seqs : t.bi.seqs = s.bi.seqs ∧ t.bi.statusSeq = s.bi.statusSeq
  slots : EveryKind (fun k => t.ti.slots.stamp k = none)
  looks : t.ti.gear = ⟨none, none⟩ ∧ t.ti.zone = ⟨none, none⟩ ∧ t.ti.inhibit = .clear
  intake : t.ti.removals = s.ti.removals ∧ t.ti.table = s.ti.table
  scheduler : t.cs.inflight = none ∧ t.cs.timer = none ∧ t.cs.pendingStart = none ∧ t.cs.overrun = false
  plans : t.cs.back = .empty ∧ t.cs.front = none
  kept : t.cs.lastSeq = s.cs.lastSeq ∧ t.cs.nextPlan = s.cs.nextPlan ∧ t.cs.lastRelease = s.cs.lastRelease
  channels : EveryChan (fun c => t.cu.get c = { Channel.reset with shut := (s.cu.get c).shut })
  negotiator : t.en = if s.en.state = .lockedOut then s.en else ⟨.unknown, none, 0, s.en.failed, none, none, none, none⟩
  faults : t.fm.list = s.fm.list.filter (fun e => !e.id.endsAtSleep) ∧ t.fm.degrading = s.fm.degrading.filter (fun f => !f.endsAtSleep) ∧
    t.fm.rotation = s.fm.rotation
  overflow : t.fm.overflow = true ↔ s.fm.overflow = true ∧
    (16 ≤ t.fm.list.length ∨ (t.fm.list = s.fm.list ∧ t.fm.degrading = s.fm.degrading))
  rest : t.now = s.now ∧ t.pins = s.pins ∧ t.cfg = s.cfg ∧ t.eb = s.eb ∧ t.ms = s.ms ∧ t.free = s.free ∧ t.pending = s.pending

/-- R178: a command that leaves the part `u` ends in `t`: in SLEEP if that is due then, and in `u` itself if it is not. -/
abbrev SettlesTo (u t : State) : Prop := (SleepDue u → AsleepFrom u t) ∧ (¬ SleepDue u → t = u)

/-- R166, R176: the configuration faults of a load result, in their order. -/
def configFaults (r : LoadResult) (conflict : Bool) : List FaultId :=
  (match r with | .default => [.configDefault] | .clamped w => [.configClamped w] | .good => []) ++
  (if conflict = true then [.configConflict] else [])

/-- R177: what the entry to READY does, as `s` finds the lines and the time: on into WINDING_DOWN at once where IGN is released, the cycle timer started, RELEASE sampled, the shut flags taken from SHUTDOWN. -/
structure EntersReady (s t : State) : Prop where
  part : t.su.part = (if s.pins.ign = true then .ready else .windingDown) ∧ t.su.load = .idle
  winding : s.pins.ign = false → t.su.windTimer = some (s.now + 2000) ∧ t.su.zeroRelease = false
  timer : t.cs.timer = some (s.now + t.cfg.tCycleMax)
  release : t.cfg.releaseSource = .line → t.cs.lastRelease = s.pins.release
  shut : EveryChan (fun c => (t.cu.get c).shut = (t.cfg.shutEnable.get c && s.pins.shutdown))
  rest : t.now = s.now ∧ t.pins = s.pins ∧ t.free = s.free ∧ t.pending = s.pending

/-- R179, R180: what a wake makes of the part `s`. -/
structure WokenFrom (s t : State) : Prop where
  reset : AtReset t
  ready : EntersReady s t
  kept : t.cfg = s.cfg ∧ t.ti.table = s.ti.table ∧ t.su.result = s.su.result ∧ t.su.conflict = s.su.conflict
  cause : t.su.cause = .wake
  faults : t.fm = (configFaults s.su.result s.su.conflict).foldl (fun m f => m.raise f s.now) ⟨[], false, 0, []⟩

/-! ### Sends, receptions and times -/

/-- R116: the telegram a channel builds now from a value offered. -/
def State.builtFrom (s : State) (c : Chan) (offered : Int) : Setpoint where
  value := if (s.cu.get c).shut = true ∨ (s.cu.get c).hs = .lost then 0 else offered
  poll := decide ((s.cu.get c).hs = .recovery ∨ (s.cu.get c).hs = .lost)
  request := if c = .eng then s.request else .none

/-- R88: an edge to this level is a release event. -/
abbrev SelectedEdge (e : ReleaseEdge) (level : Bool) : Prop :=
  e = .both ∨ (e = .rising ∧ level = true) ∨ (e = .falling ∧ level = false)

/-- R120: the oldest of these entries, if there is one, is not yet due. -/
abbrev NotYetDue (s : State) (l : List Sent) : Prop := ∀ e ∈ l.head?, s.now < e.time + s.cfg.echoTimeout

/-- The place of a telegram's kind in the order ENG, MGA, MGB, FRIC, STATUS (R161). -/
def Outgoing.rank : Outgoing → Nat
  | .setpoint .eng _ => 0
  | .setpoint .mga _ => 1
  | .setpoint .mgb _ => 2
  | .setpoint .fric _ => 3
  | .status _ => 4

/-- These bits are not those of an attempt under way: the telegram is another's (R157, R158). -/
abbrev NotOwn (s : State) (bits : List Bool) : Prop := ∀ a ∈ s.bi.tx, a.bits ≠ bits

/-- A good telegram reaches the part while it is READY or WINDING_DOWN, from another station than its own (R158, R159), whether or not an attempt is under way. -/
structure Heard (s : State) (bits : List Bool) (f : Frame) : Prop where
  good : receiveFrame bits = some f
  notOwn : NotOwn s bits
  working : AtWork s
  other : f.source ≠ s.cfg.station

/-- A telegram heard that passes the topic, source and length tests of its consumed entry (R97 to R99). -/
structure Accepted (s : State) (bits : List Bool) (f : Frame) (e : Consumed) : Prop where
  heard : Heard s bits f
  topic : (findTopic s.ti.table f.topic).bind (·.consumed) = some e
  source : e.source = 31 ∨ e.source = f.source
  length : f.payload.length = kindWords e.kind

/-- The echo word of an accepted telegram, if it carries one, answers no entry of its channel's list (R123). -/
abbrev NoEchoMatch (s : State) (f : Frame) (e : Consumed) : Prop :=
  ∀ c w a, e.chan = some c → echoFields e.kind f = some (w, a) → ∀ x ∈ (s.cu.get c).list, x.seq ≠ w.seq

/-- The fault list `b` is `a` after two changes that no rule orders (R168, log entry 5). -/
abbrev EitherOrder (f g : FaultMon → FaultMon) (a b : FaultMon) : Prop := b = g (f a) ∨ b = f (g a)

/-- The fault list `b` is `a` after the change that an engine state handed makes the Negotiator make; OFF also removes STOP_LATE, before it or after (R146, log entry 5). -/
abbrev FaultsHanded (e : EngineState) (change : FaultMon → FaultMon) (a b : FaultMon) : Prop :=
  if e = .off then EitherOrder (fun m => m.remove .stopLate) change a b else b = change a

/-! ### The cycle -/

/-- R83, R105: a snapshot taken of the part `s` now: every slot's fields with the freshness that its age gives now under its kind's limits, the confirmed codes, the pending overrides, the handshake states and shut flags, and the states of the Negotiator, the part and the Mode Selector. -/
structure SnapshotOf (s : State) (sn : Snapshot) : Prop where
  slots : sn.slots = s.ti.judged s.now
  never : ∀ k, s.ti.slots.stamp k = none → sn.slots.stamp k = none
  aged : ∀ k b st l, s.ti.slots.stamp k = some (b, st) → findKind s.ti.table k = some l →
    sn.slots.stamp k = some (b, if s.now - b ≤ l.fresh then .fresh else if s.now - b ≤ l.hold then .held else .stale)
  codes : sn.gear = s.ti.gear.confirmed ∧ sn.zone = s.ti.zone.confirmed
  overrides : sn.overrides = s.eb
  channels : ∀ c, sn.handshake.get c = (s.cu.get c).hs ∧ sn.shut.get c = (s.cu.get c).shut
  states : sn.neg = s.en.state ∧ sn.part = s.su.part ∧ sn.ms = s.ms

/-- R80, R82, R83: the part `t` is `s` with a computation `c` of this trigger started now and the record `p` COMPUTING: the next plan number taken, the OVERRUN mark moved into the plan, the cycle timer set T_cycle_max ahead, the pending overrides cleared, CADENCE_LOST raised or removed, and nothing else changed. -/
structure StartsWith (s t : State) (tr : Trigger) (c : Computation) (p : Plan) : Prop where
  state : t = { s with
    cs := { s.cs with
      inflight := some c, back := .computing p, overrun := false, nextPlan := s.cs.nextPlan + 1
      timer := some (s.now + s.cfg.tCycleMax) }
    eb := ⟨none, none, none⟩
    fm := if tr = .timer then s.fm.raise .cadenceLost s.now else s.fm.remove .cadenceLost }
  snapshot : SnapshotOf s c.snap
  computation : c = computationFrom s.cfg c.snap s.now
  record : p.number = s.cs.nextPlan ∧ p.trigger = tr
  flags : (p.flags.timerStart = true ↔ tr = .timer) ∧ p.flags.overrun = s.cs.overrun ∧
    (p.flags.planDropped = true ↔ ∃ q, s.cs.back = .complete q)

/-- The part `t` is `s` with a computation of this trigger started now. -/
abbrev Starts (s t : State) (tr : Trigger) : Prop := ∃ c p, StartsWith s t tr c p

/-- R85 step 6: a completion that leaves the part `s` ends in `t`: a pending start is taken. -/
abbrev TakesPending (s t : State) : Prop :=
  (s.cs.pendingStart = none → t = s) ∧
  (∀ tr, s.cs.pendingStart = some tr → Starts { s with cs := { s.cs with pendingStart := none } } t tr)

/-- R45, R138, R139, R145: the Negotiator after the hand-over at a completion, by the state it is in: STOPPED asks for a wanted start, START_PENDING withdraws one no longer wanted, RUNNING asks for a wanted stop once the handback is complete, and every other state stays. -/
def Neg.handedOver (n : Neg) (now : Nat) (start stop handback : Bool) : Neg :=
  if n.state = .stopped ∧ start = true then { n with state := .startPending, ack := some (now + 200) }
  else if n.state = .startPending ∧ start = false then { n with state := .withdrawing, ack := none, withdrawals := 0 }
  else if n.state = .running ∧ stop = true ∧ handback = true then { n with state := .stopPending, stop := some (now + 3000) }
  else n

/-- R30: CONFLICT of one machine is raised at the completion of a plan that marks its window, and removed at that of a plan that does not. -/
def conflictAfter (x : MachineId) (marked : Bool) (now : Nat) (m : FaultMon) : FaultMon :=
  if marked = true then m.raise (.conflict x) now else m.remove (.conflict x)

/-- R171: the entry that a STATUS telegram carries from a fault list, and the rotation index after its build. -/
abbrev Rotates (m : FaultMon) (entry : Option FaultEntry) (next : Nat) : Prop :=
  (m.list = [] → entry = none ∧ next = 0) ∧
  (m.list ≠ [] → ∃ i, i = (if m.rotation < m.list.length then m.rotation else 0) ∧ entry = m.list[i]? ∧ entry.isSome = true ∧
    next = if i + 1 = m.list.length then 0 else i + 1)

/-- R170: the STATUS telegram that reports a plan, of the Negotiator in this state, with the fault list as it stands at the build. -/
structure StatusFor (p : Plan) (neg : NegState) (m : FaultMon) (cause : ResetCause) (st : StatusTelegram) : Prop where
  plan : st.mode = p.mode ∧ st.planNumber = p.number ∧ st.flags = p.flags ∧ st.shortfall = p.shortfall ∧ st.friction = p.friction ∧
    st.power = p.power
  part : st.neg = neg ∧ st.cause = cause
  faults : st.faultCount = m.list.length ∧ st.overflow = m.overflow

/-- R85, steps 1 to 4: the part `u` is `s` after the completion of the computation `c` with the plan `p`, before any release: the plan COMPLETE in the back buffer, CONFLICT brought up to date, the Mode Selector's commit, the Negotiator's hand-over, the solo channels' builds, a waiting ENG telegram of a grouped channel rebuilt where the request has changed, and STATUS built over any that waits. -/
structure Reported (s : State) (c : Computation) (p : Plan) (u : State) : Prop where
  back : u.cs = { s.cs with inflight := none, back := .complete p }
  commit : u.ms = ⟨p.mode, p.eng, c.sel.startCount, c.sel.stopCount, c.sel.blend.advance s.cfg.blendStep, c.sel.startWanted, c.sel.stopWanted,
    p.eng == 0 && !(c.sel.blend.advance s.cfg.blendStep).active⟩
  handOver : u.en = s.en.handedOver s.now u.ms.startWanted u.ms.stopWanted u.ms.handback
  solo : ∀ ch, s.cfg.chanMode.get ch = .solo → u.bi.queue.get ch = some (u.builtFrom ch (p.value ch))
  grouped : ∀ ch, ch ≠ .eng → s.cfg.chanMode.get ch = .grouped → u.bi.queue.get ch = s.bi.queue.get ch
  request : s.cfg.chanMode.eng = .grouped →
    u.bi.queue.eng = s.bi.queue.eng.map (fun sp => { sp with request := if u.request = s.request then sp.request else u.request })
  status : ∃ m st, EitherOrder (conflictAfter .mga p.marks.mga s.now) (conflictAfter .mgb p.marks.mgb s.now) s.fm m ∧
    u.bi.statusQ = some st ∧ StatusFor p u.en.state m s.su.cause st ∧ Rotates m st.entry u.fm.rotation ∧
    u.fm = { m with rotation := u.fm.rotation }
  rest : u = { s with
    cs := u.cs, ms := u.ms, en := u.en, fm := u.fm, free := u.free, bi := { s.bi with queue := u.bi.queue, statusQ := u.bi.statusQ } }

/-- R89, R178: what the swap of a plan to the front does to Start-up Control: in WINDING_DOWN three zero commands set the zero-release mark. -/
def Startup.afterRelease (su : Startup) (p : Plan) : Startup :=
  if su.part = .windingDown ∧ p.eng = 0 ∧ p.mga = 0 ∧ p.mgb = 0 then { su with zeroRelease := true } else su

/-- L3 (R69), its second half, for the plan of one computation: the planned battery power is that of the commands at the computation's speeds, and it lies within the BATT window wherever the forced values alone put it there. -/
abbrev Plan.PowerKept (cfg : Cfg) (c : Computation) (p : Plan) : Prop :=
  p.power = elecPower p.mga c.work.nc cfg.etaA + elecPower p.mgb c.work.v cfg.etaB ∧
  (p.windows.batt.has (elecPower (forcedValue p.windows.mga) c.work.nc cfg.etaA + elecPower (forcedValue p.windows.mgb) c.work.v cfg.etaB) = true →
    p.windows.batt.has p.power = true)

/-- The time at which each timed command is due; no other command is ever due (R82, R98, R99, R105, R121, R139, R141, R144, R146, R156, R174, R178). -/
def IsDue (s : State) : Instr → Prop
  | .loadTimeout => ∃ b, s.su.part = .loading ∧ s.su.load = .reading b ∧ b + 50 ≤ s.now
  | .windingDownTimeout => ∃ d, s.su.windTimer = some d ∧ d ≤ s.now
  | .computationComplete => ∃ c, s.cs.inflight = some c ∧ c.startedAt + 1 ≤ s.now
  | .cycleTimerExpiry => ∃ d, s.cs.timer = some d ∧ d ≤ s.now
  | .silentTimerExpiry => ∃ d, s.bi.silentTimer = some d ∧ d ≤ s.now
  | .echoDeadlineExpiry c => ∃ d, (s.cu.get c).deadline = some d ∧ d ≤ s.now
  | .ackTimerExpiry => ∃ d, s.en.ack = some d ∧ d ≤ s.now
  | .startTimerExpiry => ∃ d, s.en.start = some d ∧ d ≤ s.now
  | .stopTimerExpiry => ∃ d, s.en.stop = some d ∧ d ≤ s.now
  | .inhibitHoldExpiry => ∃ d, s.en.hold = some d ∧ d ≤ s.now
  | .slotHeld k => ∃ b st l, s.ti.slots.stamp k = some (b, st) ∧ findKind s.ti.table k = some l ∧ st ≠ .held ∧
      l.fresh < s.now - b ∧ s.now - b ≤ l.hold
  | .slotStale k => ∃ b st l, s.ti.slots.stamp k = some (b, st) ∧ findKind s.ti.table k = some l ∧ st ≠ .stale ∧
      l.fresh < s.now - b ∧ l.hold < s.now - b
  | .faultRemovalTime f topic => ∃ r ∈ s.ti.removals, r.fault = f ∧ r.topic = topic ∧ r.time ≤ s.now
  | .powerOn => False
  | .resetAsserted => False
  | .resetReleased => False
  | .loadComplete _ => False
  | .ignReleased => False
  | .ignAsserted => False
  | .shutdownAsserted => False
  | .shutdownReleased => False
  | .releaseEdge _ => False
  | .telegramReceived _ => False
  | .attemptStart => False
  | .contentionLoss => False
  | .transmitError => False
  | .completeSend => False

/-! ### Frames -/

/-- The parts of the state, block by block. -/
inductive Block where
  | now | pins | cfg | su | bi | ti | cs | eb | ms | cu | en | fm | free | pending
  deriving DecidableEq, Repr

/-- One block is the same in two states. -/
def Block.Same (b : Block) (s t : State) : Prop :=
  match b with
  | .now => t.now = s.now
  | .pins => t.pins = s.pins
  | .cfg => t.cfg = s.cfg
  | .su => t.su = s.su
  | .bi => t.bi = s.bi
  | .ti => t.ti = s.ti
  | .cs => t.cs = s.cs
  | .eb => t.eb = s.eb
  | .ms => t.ms = s.ms
  | .cu => t.cu = s.cu
  | .en => t.en = s.en
  | .fm => t.fm = s.fm
  | .free => t.free = s.free
  | .pending => t.pending = s.pending

/-- The blocks that a command may change, by spec/95's rules for its step; every other block it leaves as it is. -/
def mayChange : Instr → List Block
  | .powerOn => [.now, .cfg, .su, .bi, .ti, .cs, .eb, .ms, .cu, .en, .fm]
  | .resetAsserted => [.pins, .cfg, .su, .bi, .ti, .cs, .eb, .ms, .cu, .en, .fm]
  | .resetReleased => [.pins, .su]
  | .loadComplete _ => [.cfg, .su, .ti, .cs, .cu, .fm]
  | .loadTimeout => [.cfg, .su, .ti, .cs, .cu, .fm]
  | .ignReleased => [.pins, .su]
  | .ignAsserted => [.pins, .su, .bi, .ti, .cs, .eb, .ms, .cu, .en, .fm]
  | .windingDownTimeout => [.su, .bi, .ti, .cs, .cu, .en, .fm]
  | .shutdownAsserted => [.pins, .cu, .bi]
  | .shutdownReleased => [.pins, .cu]
  | .releaseEdge _ => [.pins, .su, .bi, .ti, .cs, .cu, .en, .fm]
  | .telegramReceived _ => [.su, .bi, .ti, .cs, .eb, .ms, .cu, .en, .fm, .free]
  | .cycleTimerExpiry => [.cs, .eb, .fm]
  | .computationComplete => [.su, .bi, .ti, .cs, .eb, .ms, .cu, .en, .fm, .free]
  | .attemptStart => [.bi]
  | .contentionLoss => [.bi]
  | .transmitError => [.bi, .fm]
  | .silentTimerExpiry => [.bi, .fm]
  | .completeSend => [.su, .bi, .ti, .cs, .cu, .en, .fm]
  | .echoDeadlineExpiry _ => [.bi, .cu, .fm]
  | .ackTimerExpiry => [.su, .bi, .ti, .cs, .cu, .en, .fm]
  | .startTimerExpiry => [.su, .bi, .ti, .cs, .cu, .en, .fm]
  | .stopTimerExpiry => [.en, .fm]
  | .inhibitHoldExpiry => [.su, .bi, .ti, .cs, .cu, .en, .fm]
  | .slotHeld _ => [.ti]
  | .slotStale _ => [.su, .bi, .ti, .cs, .cu, .en, .fm, .free]
  | .faultRemovalTime _ _ => [.ti, .fm]

end Sys2Proof.Machine
end

