-- ==== Sys2Proof/Certificates/Slice0/Obligations.lean ====
section
/-! DEFINITION. The statements for the provers. -/

open Sys2Proof Sys2Proof.Machine

/-! ### The machine -/

/-- A step runs the command at the front of the queue on the queue's rest. -/
def Obligations.StepRunsFrontCommand : Prop :=
  ∀ (c : Instr) (rest : List Instr) (s : State), s.pending = c :: rest → step s = exec c (s.withPending rest)

/-- With no command waiting, a step is one millisecond of the time base: the timed commands then due join the queue, in some order, and nothing else of the part changes (the model's choice, log entries 2 and 5). -/
def Obligations.IdleStepPassesOneMillisecond : Prop :=
  ∀ s : State, s.pending = [] → ∃ t, step s = .next t ∧ t.now = s.now + 1 ∧
    t.pending.Perm (s.withNow (s.now + 1)).dueEvents ∧
    ∀ b : Block, b ≠ .now → b ≠ .free → b ≠ .pending → b.Same s t

/-- The timed commands that join the queue are exactly those whose time has come: by the rule of each, but for COMPUTATION_COMPLETE, which is due exactly 1 ms after its start by the model's choice (R82 says at most 1 ms; log entry 2, which makes the joining itself the model's choice too). -/
def Obligations.DueEventsFollowTheTimers : Prop :=
  ∀ (s : State) (i : Instr), i ∈ s.dueEvents ↔ IsDue s i

/-- Every command completes in every state, leaves the queue as it finds it, and changes only the blocks that the rules of its step name: the frame of all commands. -/
def Obligations.CommandsCompleteAndKeepTheRest : Prop :=
  ∀ (i : Instr) (s : State), ∃ t, exec i s = .next t ∧ t.pending = s.pending ∧ ∀ b : Block, b ∉ mayChange i → b.Same s t

/-- What State.reset, a power-on with RESET released by the model's choice (log entry 4), leaves in every block (R33, R35, R78, R107, R109, R110, R113, R135, R150, R166, R169, R177, R180): LOADING, the load begun, FAULT released; and every invariant stated below holds there, the ranges of the configuration for the defaults that the field holds in LOADING by the model's choice (log entry 6). -/
def Obligations.ResetStateIsAsStated : Prop :=
  AtReset State.reset ∧ State.reset.su.part = .loading ∧ State.reset.su.load = .reading State.reset.now ∧
  State.reset.su.cause = .powerOn ∧ State.reset.su.windTimer = none ∧ State.reset.su.zeroRelease = false ∧
  State.reset.cs.timer = none ∧ State.reset.fm = ⟨[], false, 0, []⟩ ∧ State.reset.faultLine = false ∧
  EveryChan (fun c => (State.reset.cu.get c).shut = false) ∧ State.reset.pending = [] ∧
  (let s := State.reset
  CfgOk s.cfg ∧ TableOk s.ti.table ∧ s.ti.slots.ok = true ∧ FaultsOk s.fm ∧ Settled s ∧
  EveryChan (fun c => HandshakeOk s.cfg.nRetry (s.cu.get c)) ∧ EveryChan (fun c => DeadlineOk s.cfg.echoTimeout (s.cu.get c)) ∧
  EveryChan (fun c => ListOk (s.bi.seqs.get c) (s.cu.get c)) ∧ AttemptOk s.bi ∧ LinkOk s.bi ∧ ModeSelOk s.ms ∧ SelectionOk s ∧
  RequestOk s ∧ SchedOk s.cs ∧ ComputationOk s ∧ CompletePlans Plan.Balanced s ∧ CompletePlans Plan.Within s ∧
  LostFaultOk s ∧ ShutOk s ∧ WindingOk s ∧ NoSleepDue s)

/-! ### Start-up, winding down, sleep -/

/-- POWER_ON and RESET_ASSERTED take the part to LOADING from any state with every block at its reset values and FAULT released; the load waits while RESET is asserted. -/
def Obligations.PowerOnAndResetStartOver : Prop :=
  (∀ s : State, ∃ t, exec .powerOn s = .next t ∧ AtReset t ∧ t.cs.timer = none ∧ EveryChan (fun c => (t.cu.get c).shut = false) ∧
    t.fm = ⟨[], false, 0, []⟩ ∧ t.faultLine = false ∧ t.su.part = .loading ∧ t.su.cause = .powerOn ∧ t.su.windTimer = none ∧
    t.su.zeroRelease = false ∧ t.su.load = (if s.pins.reset = true then .held else .reading t.now) ∧ t.pins = s.pins ∧
    t.pending = s.pending) ∧
  (∀ s : State, ∃ t, exec .resetAsserted s = .next t ∧ AtReset t ∧ t.cs.timer = none ∧ EveryChan (fun c => (t.cu.get c).shut = false) ∧
    t.fm = ⟨[], false, 0, []⟩ ∧ t.faultLine = false ∧ t.su.part = .loading ∧ t.su.cause = .resetLine ∧ t.su.windTimer = none ∧
    t.su.zeroRelease = false ∧ t.su.load = .held ∧ t.pins = { s.pins with reset := true } ∧ t.now = s.now ∧ t.pending = s.pending)

/-- RESET_RELEASED begins a load that RESET held, and otherwise changes the line's level alone. -/
def Obligations.ResetReleasedBeginsTheLoad : Prop :=
  ∀ s : State, exec .resetReleased s = .next { s with
    pins := { s.pins with reset := false }
    su := if s.su.part = .loading ∧ s.su.load = .held then { s.su with load := .reading s.now } else s.su }

/-- LOAD_COMPLETE with a good image within the 50 ms puts its clamped fields in force, builds the topic table and enters READY. That a shut-enable bit of 1 means enabled is the model's choice (log entry 20). -/
def Obligations.GoodImageTakesForce : Prop :=
  ∀ (s : State) (b : Nat) (bs : List Byte), s.su.part = .loading → s.su.load = .reading b → s.now ≤ b + 50 →
    imageGood (wordsOfBytes bs) = true → ∃ t, exec (.loadComplete (.bytes bs)) s = .next t ∧
    t.cfg = cfgOfImage (wordsOfBytes bs) ∧ CfgOk t.cfg ∧
    (t.su.result = .good ∧ (∀ p ∈ fieldChanges (wordsOfBytes bs), p.2 = false) ∨
      ∃ w, t.su.result = .clamped w ∧ firstClamped (wordsOfBytes bs) = some w) ∧
    t.ti.table = (buildTable t.cfg).1 ∧ t.su.conflict = (buildTable t.cfg).2 ∧ EntersReady s t ∧
    t.fm = (configFaults t.su.result t.su.conflict).foldl (fun m f => m.raise f s.now) s.fm ∧
    t.ti.slots = s.ti.slots ∧ t.su.cause = s.su.cause

/-- A load fails on no acknowledge, on a bad length word or on a bad sum (LOAD_COMPLETE), and at 50 ms (LOAD_TIMEOUT); a read of another number of words, and any read that ends after the 50 ms, fail by the model's inference (log entry 12): the defaults are in force, CONFIG_DEFAULT asserts FAULT and the part enters READY. -/
def Obligations.FailedLoadTakesDefaults : Prop :=
  ∀ (s : State) (b : Nat) (i : Instr), s.su.part = .loading → s.su.load = .reading b →
    (i = .loadComplete .noAck ∨ (∃ bs, i = .loadComplete (.bytes bs) ∧ imageGood (wordsOfBytes bs) = false) ∨
      (∃ r, i = .loadComplete r ∧ b + 50 < s.now) ∨ (i = .loadTimeout ∧ b + 50 ≤ s.now)) →
    ∃ t, exec i s = .next t ∧ t.cfg = defaultCfg ∧ t.su.result = .default ∧ t.ti.table = (buildTable defaultCfg).1 ∧
    EntersReady s t ∧ .configDefault ∈ t.fm.degrading ∧ t.faultLine = true ∧
    t.fm = (configFaults .default (buildTable defaultCfg).2).foldl (fun m f => m.raise f s.now) s.fm

/-- IGN_RELEASED in READY enters WINDING_DOWN with its timer set 2000 ms ahead and the zero-release mark clear, and touches nothing else; IGN_ASSERTED returns WINDING_DOWN to READY with the timer stopped and the mark cleared and nothing else reset, and wakes a sleeping part; in every other state only the level changes. -/
def Obligations.IgnitionMovesThePart : Prop :=
  (∀ s : State, exec .ignReleased s = .next { s with
    pins := { s.pins with ign := false }
    su := if s.su.part = .ready then { s.su with part := .windingDown, windTimer := some (s.now + 2000), zeroRelease := false } else s.su }) ∧
  (∀ s : State, s.su.part ≠ .sleep → exec .ignAsserted s = .next { s with
    pins := { s.pins with ign := true }
    su := if s.su.part = .windingDown then { s.su with part := .ready, windTimer := none, zeroRelease := false } else s.su }) ∧
  (∀ s : State, s.su.part = .sleep → ∃ t, exec .ignAsserted s = .next t ∧ t.su.part = .ready ∧
    WokenFrom { s with pins := { s.pins with ign := true } } t)

/-- In SLEEP a good telegram on the wake topic, from any source and of any length, wakes the part, and no other telegram changes anything. -/
def Obligations.WakeTopicWakes : Prop :=
  ∀ (s : State) (bits : List Bool), s.su.part = .sleep → NotOwn s bits →
    (∀ f, receiveFrame bits = some f → (∃ e ∈ s.ti.table, e.wake = true ∧ e.topic = f.topic) →
      ∃ t, exec (.telegramReceived bits) s = .next t ∧ WokenFrom s t) ∧
    ((∀ f, receiveFrame bits = some f → ¬ ∃ e ∈ s.ti.table, e.wake = true ∧ e.topic = f.topic) →
      exec (.telegramReceived bits) s = .next s)

/-- WINDING_DOWN_TIMEOUT takes the part to SLEEP with every block's entry actions. -/
def Obligations.WindingDownTimeoutSleeps : Prop :=
  ∀ (s : State) (d : Nat), s.su.part = .windingDown → s.su.windTimer = some d → d ≤ s.now →
    ∃ t, exec .windingDownTimeout s = .next t ∧ AsleepFrom s t

/-- In WINDING_DOWN a swap that releases three zero commands (RELEASE_EDGE, release source LINE) takes the part to SLEEP where the Negotiator is stopped, and sets the zero-release mark where it is not. -/
def Obligations.ZeroReleaseEndsWindingDown : Prop :=
  ∀ (s : State) (p : Plan) (level : Bool), s.su.part = .windingDown → s.cfg.releaseSource = .line → s.cs.lastRelease ≠ level →
    SelectedEdge s.cfg.releaseEdge level → s.cs.back = .complete p → s.cs.inflight = none →
    p.eng = 0 → p.mga = 0 → p.mgb = 0 →
    ∃ t, exec (.releaseEdge level) s = .next t ∧
    (s.en.state = .stopped ∨ s.en.state = .unknown ∨ s.en.state = .lockedOut →
      t.su.part = .sleep ∧ t.bi.queue = .const none ∧ t.cs.front = none ∧ t.cs.back = .empty) ∧
    (¬ (s.en.state = .stopped ∨ s.en.state = .unknown ∨ s.en.state = .lockedOut) →
      t.su = { s.su with zeroRelease := true } ∧ t.cs.front = some p ∧ t.cs.back = .empty)

/-! ### The lines SHUTDOWN and RELEASE -/

/-- SHUTDOWN_ASSERTED in READY and WINDING_DOWN: each shut-enabled channel sets its shut flag and queues 0 in place of any telegram that waits; lists, deadlines, counts, the other channels and their telegrams stay as they are. -/
def Obligations.ShutdownAssertedQueuesZero : Prop :=
  ∀ s : State, (s.su.part = .ready ∨ s.su.part = .windingDown) → ShutOk s →
    ∃ t, exec .shutdownAsserted s = .next t ∧ t.pins = { s.pins with shutdown := true } ∧
    (∀ c, t.cu.get c = if s.cfg.shutEnable.get c = true then { s.cu.get c with shut := true } else s.cu.get c) ∧
    (∀ c, t.bi.queue.get c = if s.cfg.shutEnable.get c = true then
        some ⟨0, decide ((s.cu.get c).hs = .recovery ∨ (s.cu.get c).hs = .lost), if c = .eng then s.request else .none⟩
      else s.bi.queue.get c) ∧
    t.bi = { s.bi with queue := t.bi.queue }

/-- SHUTDOWN_RELEASED clears every shut flag and builds no telegram; in LOADING only the level changes; in SLEEP an assertion or a release changes the flags of the shut-enabled channels and builds nothing. -/
def Obligations.ShutdownReleasedBuildsNothing : Prop :=
  (∀ s : State, s.su.part ≠ .loading → ∃ t, exec .shutdownReleased s = .next t ∧
    (∀ c, t.cu.get c = { s.cu.get c with shut := false }) ∧ t = { s with pins := { s.pins with shutdown := false }, cu := t.cu }) ∧
  (∀ s : State, s.su.part = .loading →
    exec .shutdownReleased s = .next { s with pins := { s.pins with shutdown := false } } ∧
    exec .shutdownAsserted s = .next { s with pins := { s.pins with shutdown := true } }) ∧
  (∀ s : State, s.su.part = .sleep → ∃ t, exec .shutdownAsserted s = .next t ∧
    (∀ c, t.cu.get c = { s.cu.get c with shut := s.cfg.shutEnable.get c }) ∧ t = { s with pins := { s.pins with shutdown := true }, cu := t.cu })

/-- RELEASE_EDGE with release source LINE in READY and WINDING_DOWN: a selected edge swaps a COMPLETE back plan to the front where no computation is in flight (three zero commands set the mark in WINDING_DOWN), makes no swap otherwise, and with or without a swap every grouped channel then builds its value from the front plan, if there is one; a sleep then due follows. An edge of the other kind moves only the last level; a level that is no change, and any level with release source PLAN, in LOADING or in SLEEP, releases nothing. -/
def Obligations.ReleaseEdgeSendsTheFrontPlan : Prop :=
  (∀ (s : State) (level : Bool), AtWork s → s.cfg.releaseSource = .line → s.cs.lastRelease ≠ level →
    SelectedEdge s.cfg.releaseEdge level →
    ∃ t u, exec (.releaseEdge level) s = .next t ∧ SettlesTo u t ∧
    (∀ p, s.cs.back = .complete p → s.cs.inflight = none →
      u.cs = { s.cs with lastRelease := level, front := some p, back := .empty } ∧ u.su = s.su.afterRelease p) ∧
    ((s.cs.inflight.isSome = true ∨ ∀ p, s.cs.back ≠ .complete p) → u.cs = { s.cs with lastRelease := level } ∧ u.su = s.su) ∧
    (∀ p, u.cs.front = some p → ∀ c, u.bi.queue.get c =
      if s.cfg.chanMode.get c = .grouped then some (s.builtFrom c (p.value c)) else s.bi.queue.get c) ∧
    (u.cs.front = none → u.bi.queue = s.bi.queue) ∧
    u = { s with pins := { s.pins with release := level }, su := u.su, cs := u.cs, bi := { s.bi with queue := u.bi.queue } }) ∧
  (∀ (s : State) (level : Bool),
    (AtWork s → s.cfg.releaseSource = .line → ¬ SelectedEdge s.cfg.releaseEdge level →
      exec (.releaseEdge level) s = .next { s with pins := { s.pins with release := level }, cs := { s.cs with lastRelease := level } }) ∧
    (AtWork s → s.cfg.releaseSource = .line → s.cs.lastRelease = level →
      exec (.releaseEdge level) s = .next { s with pins := { s.pins with release := level } }) ∧
    (s.cfg.releaseSource = .plan ∨ s.su.part = .loading ∨ s.su.part = .sleep →
      exec (.releaseEdge level) s = .next { s with pins := { s.pins with release := level } }))

/-! ### Reception -/

/-- TELEGRAM_RECEIVED with a telegram that is not good, or in LOADING, changes nothing, and neither does the telegram that the part itself sends, which its bits tell from another's by the model's inference (log entry 13); a good one of another station with the part's own station number raises STATION_CLASH, asserts FAULT and goes no further, whatever its topic and whether or not an attempt is under way. -/
def Obligations.BadAndClashingTelegrams : Prop :=
  (∀ (s : State) (bits : List Bool), (receiveFrame bits = none ∨ s.su.part = .loading ∨ ∃ a ∈ s.bi.tx, a.bits = bits) →
    exec (.telegramReceived bits) s = .next s) ∧
  (∀ (s : State) (bits : List Bool) (f : Frame), (s.su.part = .ready ∨ s.su.part = .windingDown) → NotOwn s bits →
    receiveFrame bits = some f → f.source = s.cfg.station →
    ∃ t, exec (.telegramReceived bits) s = .next t ∧ t = { s with fm := s.fm.raise .stationClash s.now } ∧
    .stationClash ∈ t.fm.degrading ∧ t.faultLine = true)

/-- TELEGRAM_RECEIVED in READY and WINDING_DOWN, no sleep overdue: an unknown topic, or one of the wake entry alone, changes nothing; a wrong source, and then a wrong length, raises its fault with the topic as subject, sets the removal time of that topic 1000 ms ahead and changes nothing else. -/
def Obligations.RejectedTelegramsChangeNoSlot : Prop :=
  ∀ (s : State) (bits : List Bool) (f : Frame), Heard s bits f → NoSleepDue s →
    ((findTopic s.ti.table f.topic).bind (·.consumed) = none → exec (.telegramReceived bits) s = .next s) ∧
    (∀ e, (findTopic s.ti.table f.topic).bind (·.consumed) = some e →
      (e.source ≠ 31 → e.source ≠ f.source →
        ∃ rs, exec (.telegramReceived bits) s = .next { s with
            fm := s.fm.raise (.sourceMismatch f.topic) s.now, ti := { s.ti with removals := rs } } ∧
          ∀ r, r ∈ rs ↔ r = ⟨.sourceMismatch, f.topic, s.now + 1000⟩ ∨
            (r ∈ s.ti.removals ∧ ¬ (r.fault = .sourceMismatch ∧ r.topic = f.topic))) ∧
      (e.source = 31 ∨ e.source = f.source → f.payload.length ≠ kindWords e.kind →
        ∃ rs, exec (.telegramReceived bits) s = .next { s with
            fm := s.fm.raise (.lengthError f.topic) s.now, ti := { s.ti with removals := rs } } ∧
          ∀ r, r ∈ rs ↔ r = ⟨.lengthError, f.topic, s.now + 1000⟩ ∨
            (r ∈ s.ti.removals ∧ ¬ (r.fault = .lengthError ∧ r.topic = f.topic))))

/-- TELEGRAM_RECEIVED with an accepted telegram, before any sleep it brings: its clamped fields fill its kind's slot, FRESH with age 0, the other slots stay, and the kind's STALE fault is gone. A well-formed window of MGA_ECHO or MGB_ECHO removes WINDOW_INVERTED of its topic; an inverted one is stored as [0, 0] and raises it (R103). -/
def Obligations.AcceptedTelegramFillsItsSlot : Prop :=
  ∀ (s : State) (bits : List Bool) (f : Frame) (e : Consumed), Accepted s bits f e →
    ∃ t u, exec (.telegramReceived bits) s = .next t ∧ SettlesTo u t ∧ u.ti.slots = writeSlot s.ti.slots s.now e.kind f ∧
    u.ti.slots.stamp e.kind = some (s.now, .fresh) ∧
    (∀ k, k ≠ e.kind → u.ti.slots.stamp k = s.ti.slots.stamp k) ∧ (s.ti.slots.ok = true → u.ti.slots.ok = true) ∧
    u.fm.listed (.stale e.kind) = false ∧ .stale e.kind ∉ u.fm.degrading ∧
    (e.kind = .mgaEcho ∨ e.kind = .mgbEcho → isInverted (f.word 0) (f.word 1) = false →
      u.fm.listed (.windowInverted f.topic) = false) ∧
    (e.kind = .mgaEcho ∨ e.kind = .mgbEcho → isInverted (f.word 0) (f.word 1) = true →
      (e.kind = .mgaEcho → ∃ x, u.ti.slots.mgaEcho = .received s.now .fresh x ∧ x.wmin = some 0 ∧ x.wmax = some 0) ∧
      (e.kind = .mgbEcho → ∃ x, u.ti.slots.mgbEcho = .received s.now .fresh x ∧ x.wmin = some 0 ∧ x.wmax = some 0) ∧
      (s.fm.listed (.windowInverted f.topic) = true ∨ s.fm.list.length < 16 → u.fm.listed (.windowInverted f.topic) = true) ∧
      (NoEchoMatch s f e →
        EitherOrder (fun m => m.remove (.stale e.kind)) (fun m => m.raise (.windowInverted f.topic) s.now) s.fm u.fm)) ∧
    u.su = s.su ∧ u.ti.removals = s.ti.removals ∧ u.ti.table = s.ti.table

/-- Two-look confirmation at an accepted telegram (R109, R110): the gear, zone and INHIBIT records after it, before any sleep it brings, each changed by its own kind alone. -/
def Obligations.CodesTakeTwoLooks : Prop :=
  ∀ (s : State) (bits : List Bool) (f : Frame) (e : Consumed), Accepted s bits f e →
    ∃ t u, exec (.telegramReceived bits) s = .next t ∧ SettlesTo u t ∧
    u.ti.zone = (if e.kind ≠ .zone then s.ti.zone
      else if s.ti.zone.confirmed = some (zoneOfWord (f.word 0)) then ⟨s.ti.zone.confirmed, none⟩
      else if s.ti.zone.candidate = some (zoneOfWord (f.word 0)) then ⟨s.ti.zone.candidate, none⟩
      else ⟨s.ti.zone.confirmed, some (zoneOfWord (f.word 0))⟩) ∧
    u.ti.gear = (if e.kind ≠ .gearbox then s.ti.gear
      else if s.ti.gear.confirmed = some (gearOfWord (f.word 1)) then ⟨s.ti.gear.confirmed, none⟩
      else if s.ti.gear.candidate = some (gearOfWord (f.word 1)) then ⟨s.ti.gear.candidate, none⟩
      else ⟨s.ti.gear.confirmed, some (gearOfWord (f.word 1))⟩) ∧
    u.ti.inhibit = (if e.kind ≠ .engine then s.ti.inhibit
      else if engineStateOf (f.word 0) ≠ .inhibit then .clear
      else if s.ti.inhibit = .clear then .candidate else .confirmed) ∧
    u.en.observed = (if e.kind = .engine ∧ (engineStateOf (f.word 0) = .inhibit → s.ti.inhibit ≠ .clear)
      then some (engineStateOf (f.word 0)) else s.en.observed)

/-- An accepted DEMAND telegram, no sleep overdue: its slot is written and its STALE fault removed; the same sequence number as the last is a repeat and moves nothing in the Scheduler; another is an arrival, which starts a computation from a snapshot of the part with the new demand, or is left pending behind the one in flight. -/
def Obligations.DemandArrivalStartsComputation : Prop :=
  ∀ (s : State) (bits : List Bool) (f : Frame) (e : Consumed), Accepted s bits f e → e.kind = .demand → NoSleepDue s →
    ∃ t u, exec (.telegramReceived bits) s = .next t ∧ u = { s with
      ti := { s.ti with slots := { s.ti.slots with demand := .received s.now .fresh (clampInt (-6000) 6000 (f.word 0).toInt) } }
      cs := { s.cs with lastSeq := some f.seq }
      fm := s.fm.remove (.stale .demand) } ∧
    (s.cs.lastSeq = some f.seq → t = u ∧ t.cs = s.cs) ∧
    (s.cs.lastSeq ≠ some f.seq → s.cs.inflight = none →
      Starts u t .demand ∧ .cadenceLost ∉ t.fm.degrading ∧ t.fm.listed .cadenceLost = false ∧
      ∀ c ∈ t.cs.inflight, c.snap.slots.demand.live = some (clampInt (-6000) 6000 (f.word 0).toInt)) ∧
    (s.cs.lastSeq ≠ some f.seq → s.cs.inflight.isSome = true →
      t = { u with cs := { u.cs with pendingStart := some .demand, overrun := s.cs.overrun || s.cs.pendingStart.isSome } })

/-- An accepted telegram whose echo word matches an entry of its channel's list, with no newer entry overdue (R123 to R125), and one that matches none, before any sleep it brings. The entry and every older one leave; an ACTIVE or RECOVERY channel is ACTIVE with its counts at 0; a LOST one counts APPLIED echoes and is readmitted at the second. -/
def Obligations.MatchedEchoAnswersTheChannel : Prop :=
  ∀ (s : State) (bits : List Bool) (f : Frame) (e : Consumed) (c : Chan) (w : EchoWord) (a : Int), Accepted s bits f e →
    e.chan = some c → echoFields e.kind f = some (w, a) →
    ∃ t u, exec (.telegramReceived bits) s = .next t ∧ SettlesTo u t ∧ (∀ c', c' ≠ c → u.cu.get c' = s.cu.get c') ∧
    ((∀ x ∈ (s.cu.get c).list, x.seq ≠ w.seq) → u.cu.get c = s.cu.get c ∧ u.eb = s.eb) ∧
    (∀ older x newer, (s.cu.get c).list = older ++ x :: newer → x.seq = w.seq → (∀ y ∈ older, y.seq ≠ w.seq) → NotYetDue s newer →
      (u.cu.get c).list = newer ∧ (u.cu.get c).shut = (s.cu.get c).shut ∧
      (u.cu.get c).deadline = newer.head?.map (fun y => y.time + s.cfg.echoTimeout) ∧
      ((s.cu.get c).hs = .active ∨ (s.cu.get c).hs = .recovery →
        (u.cu.get c).hs = .active ∧ (u.cu.get c).retry = 0 ∧ (u.cu.get c).readm = (s.cu.get c).readm) ∧
      ((s.cu.get c).hs = .recovery → u.fm.listed (.channelRecovery c) = false) ∧
      ((s.cu.get c).hs = .lost → w.status ≠ .applied →
        (u.cu.get c).hs = .lost ∧ (u.cu.get c).retry = (s.cu.get c).retry ∧ (u.cu.get c).readm = 0) ∧
      ((s.cu.get c).hs = .lost → w.status = .applied → (s.cu.get c).readm = 0 →
        (u.cu.get c).hs = .lost ∧ (u.cu.get c).retry = (s.cu.get c).retry ∧ (u.cu.get c).readm = 1) ∧
      ((s.cu.get c).hs = .lost → w.status = .applied → (s.cu.get c).readm = 1 →
        (u.cu.get c).hs = .active ∧ (u.cu.get c).retry = 0 ∧ (u.cu.get c).readm = 0 ∧
        .channelLost c ∉ u.fm.degrading ∧ u.fm.listed (.channelLost c) = false))

/-- An echo that is matched on ENG, MGA or MGB leaves its one-shot override pending (R31, R32): REFUSED, or CLAMPED away from the command it answers; APPLIED, CLAMPED at the command, and any echo on FRIC leave what was pending. -/
def Obligations.MatchedEchoLeavesItsOverride : Prop :=
  ∀ (s : State) (bits : List Bool) (f : Frame) (e : Consumed) (c : Chan) (w : EchoWord) (a : Int) (older newer : List Sent) (x : Sent),
    Accepted s bits f e → e.chan = some c → echoFields e.kind f = some (w, a) →
    (s.cu.get c).list = older ++ x :: newer → x.seq = w.seq → (∀ y ∈ older, y.seq ≠ w.seq) →
    ∃ t, exec (.telegramReceived bits) s = .next t ∧ t.eb =
      if c = .fric ∨ w.status = .applied ∨ (w.status = .clamped ∧ a = x.value) then s.eb
      else match c with
        | .eng => { s.eb with eng := some ⟨w.status, a, x.value⟩ }
        | .mga => { s.eb with mga := some ⟨w.status, a, x.value⟩ }
        | .mgb => { s.eb with mgb := some ⟨w.status, a, x.value⟩ }
        | .fric => s.eb

/-- A telegram of the ENGINE kind, accepted in READY or WINDING_DOWN, and what the Negotiator makes of the state it hands (R135, R137 to R146), before any sleep it brings: its record and the fault list after the hand-off, for every state of the Negotiator and every engine state. An INHIBIT not yet confirmed is not handed. OFF also removes STOP_LATE, before the other faults of the hand-off or after them (log entry 5). That the fault list `m` is the one after the echo, so that the echo's faults come before those of the hand-off, is the model's inference from the order in which R104 names the two, and so is START_FAILED before ENGINE_LOCKED_OUT at a third failure from that of R142 (log entry 8). -/
def Obligations.EngineStatesMoveTheNegotiator : Prop :=
  ∀ (s : State) (bits : List Bool) (f : Frame) (e : Consumed) (h : EngineState), Accepted s bits f e → e.kind = .engine →
    h = engineStateOf (f.word 0) →
    ∃ t u m, exec (.telegramReceived bits) s = .next t ∧ SettlesTo u t ∧
    m = ((s.storeTelegram e.kind f).echoTelegram e f).fm ∧ (NoEchoMatch s f e → m = s.fm.remove (.stale .engine)) ∧
    (h = .inhibit ∧ s.ti.inhibit = .clear → u.en = s.en ∧ u.fm = m) ∧
    (¬ (h = .inhibit ∧ s.ti.inhibit = .clear) →
      (s.en.state = .stopped ∨ s.en.state = .startPending ∨ s.en.state = .unknown → h = .cranking →
        u.en = { s.en with
          state := .cranking, observed := some h, start := some (s.now + s.cfg.startTimeout)
          ack := if s.en.state = .startPending then none else s.en.ack } ∧ u.fm = m) ∧
      (s.en.state = .stopped ∨ s.en.state = .startPending ∨ s.en.state = .unknown ∨ s.en.state = .cranking ∨ s.en.state = .inhibited →
        h = .running →
        u.en = { s.en with
          state := .running, observed := some h, failed := 0
          ack := if s.en.state = .startPending then none else s.en.ack
          start := if s.en.state = .cranking then none else s.en.start
          hold := if s.en.state = .inhibited then none else s.en.hold } ∧
        u.fm = ((if s.en.state = .inhibited then m.remove .engineInhibited else m).remove .startFailed).remove .engineStall) ∧
      (s.en.state = .stopped ∨ s.en.state = .unknown → h ≠ .cranking → h ≠ .running →
        u.en = { s.en with state := .stopped, observed := some h } ∧ FaultsHanded h id m u.fm) ∧
      (s.en.state = .startPending ∨ s.en.state = .cranking ∨ s.en.state = .withdrawing → h = .inhibit →
        u.en = { s.en with
          state := .inhibited, observed := some h, ack := none, start := none, withdrawals := 0, hold := some (s.now + 2000) } ∧
        u.fm = m.raise .engineInhibited s.now) ∧
      (s.en.state = .cranking → h = .off ∨ h = .stopping ∨ h = .fault →
        (s.en.failed + 1 < 3 → u.en = { s.en with state := .stopped, observed := some h, start := none, failed := s.en.failed + 1 } ∧
          FaultsHanded h (fun x => x.raise .startFailed s.now) m u.fm) ∧
        (s.en.failed + 1 = 3 → u.en = { s.en with
            state := .lockedOut, observed := some h, failed := 3, ack := none, start := none, stop := none, hold := none } ∧
          FaultsHanded h (fun x => (x.raise .startFailed s.now).raise .engineLockedOut s.now) m u.fm ∧ u.faultLine = true)) ∧
      (s.en.state = .running → h ≠ .running →
        u.en = { s.en with state := .stopped, observed := some h } ∧ FaultsHanded h (fun x => x.raise .engineStall s.now) m u.fm) ∧
      (s.en.state = .stopPending → h = .off ∨ h = .fault ∨ h = .inhibit →
        u.en = { s.en with state := .stopped, observed := some h, stop := none } ∧ FaultsHanded h id m u.fm) ∧
      (s.en.state = .lockedOut ∨ (s.en.state = .withdrawing ∧ h ≠ .inhibit) ∨ (s.en.state = .inhibited ∧ h ≠ .running) ∨
          (s.en.state = .startPending ∧ (h = .off ∨ h = .stopping ∨ h = .fault)) ∨ (s.en.state = .cranking ∧ h = .cranking) ∨
          (s.en.state = .running ∧ h = .running) ∨ (s.en.state = .stopPending ∧ (h = .stopping ∨ h = .running ∨ h = .cranking)) →
        u.en = { s.en with observed := some h } ∧ FaultsHanded h id m u.fm))

/-! ### The cycle -/

/-- CYCLE_TIMER_EXPIRY with no computation in flight starts one with trigger TIMER: the next plan number, a snapshot judged now, the pending overrides taken in and cleared, the timer set T_cycle_max ahead, CADENCE_LOST raised. While one is in flight, the timer stops and the request waits; behind a pending start the OVERRUN mark is set and the pending trigger stays. -/
def Obligations.CycleTimerStartsComputation : Prop :=
  (∀ (s : State) (d : Nat), AtWork s → s.cs.timer = some d → d ≤ s.now → s.cs.inflight = none →
    ∃ t c p, exec .cycleTimerExpiry s = .next t ∧ StartsWith s t .timer c p ∧ c.snap.slots = s.ti.judged s.now ∧ t.faultLine = true) ∧
  (∀ (s : State) (d : Nat), AtWork s → s.cs.timer = some d → d ≤ s.now → s.cs.inflight.isSome = true →
    exec .cycleTimerExpiry s = .next { s with cs := { s.cs with
      timer := none
      pendingStart := some (s.cs.pendingStart.getD .timer)
      overrun := s.cs.overrun || s.cs.pendingStart.isSome } })

/-- COMPUTATION_COMPLETE with release source LINE: the back plan is COMPLETE, CONFLICT of each machine is raised or removed, the Mode Selector commits and the Negotiator is handed its outputs, each solo channel builds from the plan, and a STATUS telegram of the plan, with the fault entry at the rotation index, replaces any that waits; a pending start then begins a computation, and the plan is dropped. That CONFLICT is up to date before STATUS is built is the model's inference (R30 names no step of R85; log entry 8). -/
def Obligations.CompletionReportsThePlan : Prop :=
  ∀ (s : State) (c : Computation) (r : Plan), s.cs.inflight = some c → s.cs.back = .computing r → s.cfg.releaseSource = .line →
    ∃ t p u, exec .computationComplete s = .next t ∧ p = fillPlan s.cfg c r ∧
    p.number = r.number ∧ p.trigger = r.trigger ∧ p.mode = c.sel.mode ∧ Reported s c p u ∧ TakesPending u t ∧
    (∀ tr, s.cs.pendingStart = some tr → ∃ q, t.cs.back = .computing q ∧ q.flags.planDropped = true ∧ t.cs.front = s.cs.front) ∧
    (p.marks.mga = false → u.fm.listed (.conflict .mga) = false) ∧ (p.marks.mgb = false → u.fm.listed (.conflict .mgb) = false) ∧
    t.cu = s.cu ∧ t.su = s.su ∧ t.ti = s.ti ∧ (s.cs.pendingStart = none → t.eb = s.eb)

/-- COMPUTATION_COMPLETE with release source PLAN: the completion is reported as with LINE, and the plan is released at once to the front, each grouped channel building from it; in WINDING_DOWN three zero commands set the zero-release mark, and a sleep then due follows; a pending start that is left begins a computation with its trigger and the next plan number, and no plan is dropped. That a sleep due comes before the pending start, and CONFLICT before STATUS, is the model's inference (log entry 8). -/
def Obligations.CompletionReleasesThePlan : Prop :=
  ∀ (s : State) (c : Computation) (r : Plan), s.cs.inflight = some c → s.cs.back = .computing r → s.cfg.releaseSource = .plan →
    ∃ t p u v w, exec .computationComplete s = .next t ∧ p = fillPlan s.cfg c r ∧ Reported s c p u ∧
    v = { u with
      cs := { u.cs with front := some p, back := .empty }, su := s.su.afterRelease p, bi := { u.bi with queue := v.bi.queue } } ∧
    (∀ ch, v.bi.queue.get ch = some (v.builtFrom ch (p.value ch))) ∧
    SettlesTo v w ∧ TakesPending w t ∧ ∀ q, t.cs.back = .computing q → q.flags.planDropped = false

/-- The hand-over at COMPUTATION_COMPLETE (R45, R138, R139, R145): STOPPED asks for a wanted start, START_PENDING withdraws one no longer wanted, RUNNING asks for a stop once the handback is complete, and every other state stays; where the plan's release then leads to SLEEP, the Negotiator goes to UNKNOWN or stays LOCKED_OUT (R149). -/
def Obligations.HandOverMovesTheNegotiator : Prop :=
  ∀ (s : State) (c : Computation) (r : Plan), s.cs.inflight = some c → s.cs.back = .computing r →
    ∃ t n, exec .computationComplete s = .next t ∧ n = s.en.handedOver s.now c.sel.startWanted c.sel.stopWanted t.ms.handback ∧
    (s.cfg.releaseSource = .plan ∧ SleepDue { s with su := s.su.afterRelease (fillPlan s.cfg c r), en := n } →
      t.su.part = .sleep ∧ t.en = if n.state = .lockedOut then n else ⟨.unknown, none, 0, n.failed, none, none, none, none⟩) ∧
    (¬ (s.cfg.releaseSource = .plan ∧ SleepDue { s with su := s.su.afterRelease (fillPlan s.cfg c r), en := n }) → t.en = n)

/-! ### Attempts -/

/-- ATTEMPT_START takes, from the entries as they stand, the waiting telegram of the lowest outgoing topic, and of equal topics the earlier in the order ENG, MGA, MGB, FRIC, STATUS (R161). -/
def Obligations.AttemptTakesTheLowestTopic : Prop :=
  ∀ s : State, s.working = true → s.bi.link = .active → s.bi.tx = none → s.bi.waiting ≠ [] →
    ∃ t a, exec .attemptStart s = .next t ∧ t.bi.tx = some a ∧ a.telegram ∈ s.bi.waiting ∧
    (∀ u ∈ s.bi.waiting, a.telegram.topic s.cfg < u.topic s.cfg ∨ (a.telegram.topic s.cfg = u.topic s.cfg ∧ a.telegram.rank ≤ u.rank)) ∧
    (∀ c, s.bi.queue.get c = none ∨ ∃ sp, s.bi.queue.get c = some sp ∧ .setpoint c sp ∈ s.bi.waiting) ∧
    (∀ st, s.bi.statusQ = some st → .status st ∈ s.bi.waiting)

/-- ATTEMPT_START empties the telegram's entry, writes its next sequence number and a fresh check, and changes nothing else; without a telegram waiting, with the link SILENT, with an attempt under way, or in LOADING and SLEEP, no attempt begins. -/
def Obligations.AttemptWritesSequenceAndCheck : Prop :=
  (∀ (s t : State) (a : Attempt), exec .attemptStart s = .next t → s.bi.tx = none → t.bi.tx = some a →
    a.seq = s.bi.seqOf a.telegram ∧ a.bits = (a.telegram.frame s.cfg a.seq).bits ∧
    (∀ c sp, a.telegram = .setpoint c sp → s.bi.queue.get c = some sp ∧
      t = { s with bi := { s.bi with tx := some a, queue := s.bi.queue.set c none } }) ∧
    (∀ st, a.telegram = .status st → s.bi.statusQ = some st ∧ t = { s with bi := { s.bi with tx := some a, statusQ := none } })) ∧
  (∀ s : State, (s.bi.waiting = [] ∨ s.bi.link = .silent ∨ s.bi.tx.isSome = true ∨ s.su.part = .loading ∨ s.su.part = .sleep) →
    exec .attemptStart s = .next s)

/-- CONTENTION_LOSS: the telegram returns to its entry if that is empty, an ENG telegram with the request supplied now, and gives way to a newer one otherwise; neither the error count nor a sequence number changes. That it returns as it was built where its channel has entered LOST meanwhile is the model's reading of R162 (log entry 16). -/
def Obligations.ContentionLossReturnsTheTelegram : Prop :=
  ∀ (s : State) (a : Attempt), s.bi.tx = some a →
    (∀ c sp, a.telegram = .setpoint c sp → (c ≠ .eng → sp.request = .none) → exec .contentionLoss s = .next { s with bi := { s.bi with
      tx := none
      queue := if s.bi.queue.get c = none then s.bi.queue.set c (some { sp with request := if c = .eng then s.request else .none })
        else s.bi.queue } }) ∧
    (∀ st, a.telegram = .status st → exec .contentionLoss s = .next { s with bi := { s.bi with
      tx := none
      statusQ := if s.bi.statusQ = none then some st else s.bi.statusQ } })

/-- TRANSMIT_ERROR of any attempt: it ends, its telegram returns as after a contention loss (an ENG telegram with the request supplied now; as it was built where its channel has entered LOST meanwhile, the model's reading of R162, log entry 16) or gives way to a newer one, and the error count goes up by 1; at 16 the link goes SILENT for 50 ms and LINK_SILENT asserts FAULT. SILENT_TIMER_EXPIRY returns the link to ACTIVE with the count 0 and removes LINK_SILENT (R156, R168; a worked case that counts on across SILENT periods is not followed, the model's choice, log entry 19), and the waiting telegrams stay. -/
def Obligations.SixteenErrorsSilenceTheLink : Prop :=
  (∀ (s : State) (a : Attempt), s.bi.tx = some a → ∃ t q st, exec .transmitError s = .next t ∧
    (∀ c sp, a.telegram = .setpoint c sp → st = s.bi.statusQ ∧
      q = if s.bi.queue.get c = none then s.bi.queue.set c (some { sp with request := if c = .eng then s.request else .none })
        else s.bi.queue) ∧
    (∀ x, a.telegram = .status x → q = s.bi.queue ∧ st = if s.bi.statusQ = none then some x else s.bi.statusQ) ∧
    (s.bi.errors + 1 < 16 → t = { s with
        bi := { s.bi with tx := none, queue := q, statusQ := st, errors := s.bi.errors + 1 } }) ∧
    (16 ≤ s.bi.errors + 1 → t = { s with
        bi := { s.bi with
          tx := none, queue := q, statusQ := st, errors := s.bi.errors + 1, link := .silent, silentTimer := some (s.now + 50) }
        fm := s.fm.raise .linkSilent s.now } ∧ t.faultLine = true)) ∧
  (∀ (s : State) (d : Nat), s.bi.silentTimer = some d → d ≤ s.now → ∃ t, exec .silentTimerExpiry s = .next t ∧
    t.bi = { s.bi with link := .active, errors := 0, silentTimer := none } ∧
    t.fm.listed .linkSilent = false ∧ .linkSilent ∉ t.fm.degrading ∧
    t.fm.list = s.fm.list.filter (fun e => e.id != .linkSilent) ∧ t = { s with bi := t.bi, fm := t.fm })

/-- COMPLETE_SEND of a telegram, before any sleep then due: the error count is 0, the kind's next sequence number advances, the transmitter is empty; a channel with room and nothing overdue appends the entry, an IDLE one becoming ACTIVE; one whose list already holds 4 entries first gives up the oldest as an expiry, towards LOST outside it and with the readmission count back at 0 in it; STATUS is reported to no block. That CHANNEL_RECOVERY is removed before CHANNEL_LOST is raised is the model's inference (R127, R168; log entry 8). -/
def Obligations.CompleteSendIsReported : Prop :=
  (∀ (s : State) (a : Attempt), s.bi.tx = some a →
    (∀ st, a.telegram = .status st → ∃ t, exec .completeSend s = .next t ∧
      SettlesTo { s with bi := { s.bi with tx := none, errors := 0, statusSeq := s.bi.statusSeq + 1 } } t) ∧
    (∀ c sp, a.telegram = .setpoint c sp → (s.cu.get c).list.length < 4 → NotYetDue s ((s.cu.get c).list ++ [⟨a.seq, sp.value, s.now⟩]) →
      ∃ t u, exec .completeSend s = .next t ∧ SettlesTo u t ∧
      u.cu = s.cu.set c { s.cu.get c with
        hs := if (s.cu.get c).hs = .idle then .active else (s.cu.get c).hs
        retry := if (s.cu.get c).hs = .idle then 0 else (s.cu.get c).retry
        list := (s.cu.get c).list ++ [⟨a.seq, sp.value, s.now⟩]
        deadline := ((s.cu.get c).list ++ [(⟨a.seq, sp.value, s.now⟩ : Sent)]).head?.map (fun e => e.time + s.cfg.echoTimeout) } ∧
      u.bi = { s.bi with tx := none, errors := 0, seqs := s.bi.seqs.set c (s.bi.seqs.get c + 1), queue := u.bi.queue } ∧
      (c ≠ .eng ∨ s.en.state ≠ .withdrawing → u.bi.queue = s.bi.queue ∧ u.en = s.en ∧ u.fm = s.fm))) ∧
  (∀ (s : State) (a : Attempt) (c : Chan) (sp : Setpoint) (e : Sent) (rest : List Sent), s.bi.tx = some a → a.telegram = .setpoint c sp →
    (s.cu.get c).list = e :: rest → rest.length = 3 → NotYetDue s rest → (s.cu.get c).hs ≠ .idle →
    ∃ t u, exec .completeSend s = .next t ∧ SettlesTo u t ∧ (u.cu.get c).list = rest ++ [⟨a.seq, sp.value, s.now⟩] ∧
    (u.cu.get c).deadline = rest.head?.map (fun x => x.time + s.cfg.echoTimeout) ∧ (u.cu.get c).shut = (s.cu.get c).shut ∧
    (∀ c', c' ≠ c → u.cu.get c' = s.cu.get c') ∧
    ((s.cu.get c).hs = .lost → (u.cu.get c).hs = .lost ∧ (u.cu.get c).retry = (s.cu.get c).retry ∧ (u.cu.get c).readm = 0) ∧
    ((s.cu.get c).hs = .active ∨ (s.cu.get c).hs = .recovery →
      (u.cu.get c).retry = (s.cu.get c).retry + 1 ∧ (u.cu.get c).readm = (s.cu.get c).readm ∧
      (u.cu.get c).hs = if s.cfg.nRetry ≤ (s.cu.get c).retry + 1 then .lost else .recovery) ∧
    u.bi = { s.bi with tx := none, errors := 0, seqs := s.bi.seqs.set c (s.bi.seqs.get c + 1), queue := u.bi.queue } ∧
    (c ≠ .eng ∨ s.en.state ≠ .withdrawing → u.en = s.en ∧
      u.fm = if (u.cu.get c).hs = .recovery then s.fm.raise (.channelRecovery c) s.now
        else (if (s.cu.get c).hs = .recovery then s.fm.remove (.channelRecovery c) else s.fm).raise (.channelLost c) s.now))

/-- COMPLETE_SEND of ENG telegrams in WITHDRAWING, before any sleep then due (R140): one carrying NONE counts, one carrying START does not, and the second NONE ends the withdrawal by the observed engine state. -/
def Obligations.SecondNoneSendEndsWithdrawal : Prop :=
  ∀ (s : State) (a : Attempt) (sp : Setpoint), s.bi.tx = some a → a.telegram = .setpoint .eng sp → s.en.state = .withdrawing →
    ∃ t u, exec .completeSend s = .next t ∧ SettlesTo u t ∧
    (sp.request ≠ .none → u.en = s.en) ∧
    (sp.request = .none → s.en.withdrawals = 0 → u.en = { s.en with withdrawals := 1 }) ∧
    (sp.request = .none → s.en.withdrawals = 1 →
      (s.en.observed = some .cranking →
        u.en = { s.en with state := .cranking, withdrawals := 0, start := some (s.now + s.cfg.startTimeout) }) ∧
      (s.en.observed = some .running → u.en = { s.en with state := .running, withdrawals := 0, failed := 0 } ∧
        u.fm.listed .startFailed = false ∧ u.fm.listed .engineStall = false) ∧
      (s.en.observed ≠ some .cranking → s.en.observed ≠ some .running → u.en = { s.en with state := .stopped, withdrawals := 0 }))

/-! ### Timed commands of the channels, the Negotiator and Topic Intake -/

/-- ECHO_DEADLINE_EXPIRY gives up the oldest entry, with no newer one overdue (R121, R127): towards LOST outside it, where a waiting telegram is rebuilt with 0 and POLL, and with the readmission count back at 0 in it. -/
def Obligations.EchoDeadlineGivesUpTheOldest : Prop :=
  ∀ (s : State) (c : Chan) (d : Nat) (e : Sent) (rest : List Sent), (s.cu.get c).deadline = some d → d ≤ s.now →
    (s.cu.get c).list = e :: rest → NotYetDue s rest →
    ∃ t, exec (.echoDeadlineExpiry c) s = .next t ∧ (∀ c', c' ≠ c → t.cu.get c' = s.cu.get c' ∧ t.bi.queue.get c' = s.bi.queue.get c') ∧
    t = { s with cu := t.cu, fm := t.fm, bi := { s.bi with queue := t.bi.queue } } ∧
    (t.cu.get c).list = rest ∧ (t.cu.get c).shut = (s.cu.get c).shut ∧
    (t.cu.get c).deadline = rest.head?.map (fun x => x.time + s.cfg.echoTimeout) ∧
    ((s.cu.get c).hs = .lost → (t.cu.get c).hs = .lost ∧ (t.cu.get c).retry = (s.cu.get c).retry ∧ (t.cu.get c).readm = 0 ∧
      t.fm = s.fm.raise (.channelLost c) s.now ∧ t.bi = s.bi) ∧
    ((s.cu.get c).hs = .active ∨ (s.cu.get c).hs = .recovery →
      (t.cu.get c).retry = (s.cu.get c).retry + 1 ∧ (t.cu.get c).readm = (s.cu.get c).readm ∧
      ((s.cu.get c).retry + 1 < s.cfg.nRetry → (t.cu.get c).hs = .recovery ∧ t.fm = s.fm.raise (.channelRecovery c) s.now ∧ t.bi = s.bi) ∧
      (s.cfg.nRetry ≤ (s.cu.get c).retry + 1 → (t.cu.get c).hs = .lost ∧ .channelLost c ∈ t.fm.degrading ∧ t.faultLine = true ∧
        ((s.cu.get c).hs = .recovery → t.fm.listed (.channelRecovery c) = false) ∧
        (s.bi.queue.get c = none → t.bi = s.bi) ∧
        (∀ sp, s.bi.queue.get c = some sp → t.bi.queue.get c = some ⟨0, true, if c = .eng then s.request else .none⟩)))

/-- ACK_TIMER_EXPIRY and START_TIMER_EXPIRY are failed starts (R139, R141, R142), and a sleep then due follows them: START_FAILED is raised, the count goes up by 1, and the Negotiator goes to STOPPED, or to STOP_PENDING with the stop timer started, or at the third failure to LOCKED_OUT with every timer stopped. That START_FAILED is raised before ENGINE_LOCKED_OUT is the model's inference from the order in which R142 names the two (log entry 8). -/
def Obligations.StartTimersFailTheStart : Prop :=
  ∀ (s : State) (d : Nat), d ≤ s.now →
    (s.en.state = .startPending → s.en.ack = some d → s.en.failed + 1 < 3 → ∃ t u, exec .ackTimerExpiry s = .next t ∧ SettlesTo u t ∧
      u.en = { s.en with state := .stopped, ack := none, failed := s.en.failed + 1 } ∧ u.fm = s.fm.raise .startFailed s.now ∧
      (RequestOk s → ∀ sp ∈ u.bi.queue.eng, sp.request = .none)) ∧
    (s.en.state = .cranking → s.en.start = some d → s.en.failed + 1 < 3 → ∃ t u, exec .startTimerExpiry s = .next t ∧ SettlesTo u t ∧
      u.en = { s.en with state := .stopPending, start := none, stop := some (s.now + 3000), failed := s.en.failed + 1 } ∧
      u.fm = s.fm.raise .startFailed s.now ∧ (∀ sp ∈ u.bi.queue.eng, sp.request = .stop)) ∧
    (∀ i, (i = .ackTimerExpiry ∧ s.en.state = .startPending ∧ s.en.ack = some d) ∨
        (i = .startTimerExpiry ∧ s.en.state = .cranking ∧ s.en.start = some d) → s.en.failed + 1 = 3 →
      ∃ t u, exec i s = .next t ∧ SettlesTo u t ∧
      u.en = { s.en with state := .lockedOut, failed := 3, ack := none, start := none, stop := none, hold := none } ∧
      u.fm = (s.fm.raise .startFailed s.now).raise .engineLockedOut s.now ∧ u.faultLine = true)

/-- STOP_TIMER_EXPIRY raises STOP_LATE and the stop goes on being asked; INHIBIT_HOLD_EXPIRY leads to STOPPED and removes ENGINE_INHIBITED, and a sleep then due follows. -/
def Obligations.StopTimerAndInhibitHold : Prop :=
  ∀ (s : State) (d : Nat), d ≤ s.now →
    (s.en.state = .stopPending → s.en.stop = some d →
      exec .stopTimerExpiry s = .next { s with en := { s.en with stop := none }, fm := s.fm.raise .stopLate s.now }) ∧
    (s.en.state = .inhibited → s.en.hold = some d → ∃ t u, exec .inhibitHoldExpiry s = .next t ∧ SettlesTo u t ∧
      u = { s with en := { s.en with state := .stopped, hold := none }, fm := u.fm } ∧ u.fm.listed .engineInhibited = false ∧
      u.fm.list = s.fm.list.filter (fun x => x.id != .engineInhibited) ∧
      u.fm.degrading = s.fm.degrading.filter (fun x => x != .engineInhibited))

/-- SLOT_HELD and SLOT_STALE (R105, R107, R110, R137): past its fresh limit a FRESH slot is HELD; past its hold limit it is STALE, raises STALE of its kind and keeps its fields; for ENGINE the INHIBIT record clears, a Negotiator that is not LOCKED_OUT goes to UNKNOWN with its failed-start count kept, and a sleep then due follows. ENGINE_INHIBITED is removed before the raise or after it (log entry 5). -/
def Obligations.SlotsAgeToHeldAndStale : Prop :=
  ∀ (s : State) (k : Kind) (b : Nat) (st : Freshness) (l : Consumed), s.ti.slots.stamp k = some (b, st) → findKind s.ti.table k = some l →
    (st = .fresh → l.fresh < s.now - b → s.now - b ≤ l.hold → ∃ t, exec (.slotHeld k) s = .next t ∧
      t = { s with ti := { s.ti with slots := s.ti.slots.setState k .held } } ∧ t.ti.slots.stamp k = some (b, .held) ∧
      ∀ k', k' ≠ k → t.ti.slots.stamp k' = s.ti.slots.stamp k') ∧
    (st ≠ .stale → l.fresh < s.now - b → l.hold < s.now - b → ∃ t u, exec (.slotStale k) s = .next t ∧
      u.ti.slots = s.ti.slots.setState k .stale ∧ u.ti.slots.stamp k = some (b, .stale) ∧
      (∀ k', k' ≠ k → u.ti.slots.stamp k' = s.ti.slots.stamp k') ∧
      u.ti.gear = s.ti.gear ∧ u.ti.zone = s.ti.zone ∧ ((FaultId.stale k).isDegrading = true → u.faultLine = true) ∧
      (k ≠ .engine → t = u ∧ u = { s with ti := { s.ti with slots := u.ti.slots }, fm := s.fm.raise (.stale k) s.now }) ∧
      (k = .engine → SettlesTo u t ∧ u.su = s.su ∧ u.ti.inhibit = .clear ∧
        (s.en.state ≠ .lockedOut → u.en = ⟨.unknown, none, 0, s.en.failed, none, none, none, none⟩) ∧
        (s.en.state = .lockedOut → u.en = { s.en with observed := none }) ∧
        (s.en.state = .inhibited → u.fm.listed .engineInhibited = false ∧
          EitherOrder (fun m => m.raise (.stale .engine) s.now) (fun m => m.remove .engineInhibited) s.fm u.fm) ∧
        (s.en.state ≠ .inhibited → u.fm = s.fm.raise (.stale .engine) s.now)))

/-- FAULT_REMOVAL_TIME removes the fault of that topic once its time is reached (R98, R99). That the time is then forgotten is the model's inference (log entry 16), and that the command changes nothing before the time is the model's choice (log entry 7). -/
def Obligations.FaultRemovalTimeRemoves : Prop :=
  ∀ (s : State) (topic : Nat),
    ((∃ r ∈ s.ti.removals, r.fault = .sourceMismatch ∧ r.topic = topic ∧ r.time ≤ s.now) →
      ∃ t, exec (.faultRemovalTime .sourceMismatch topic) s = .next t ∧ t.fm.listed (.sourceMismatch topic) = false ∧
      t.fm.list = s.fm.list.filter (fun e => e.id != .sourceMismatch topic) ∧
      (∀ r, r ∈ t.ti.removals ↔ r ∈ s.ti.removals ∧ ¬ (r.fault = .sourceMismatch ∧ r.topic = topic ∧ r.time ≤ s.now)) ∧
      t = { s with ti := { s.ti with removals := t.ti.removals }, fm := t.fm }) ∧
    ((∃ r ∈ s.ti.removals, r.fault = .lengthError ∧ r.topic = topic ∧ r.time ≤ s.now) →
      ∃ t, exec (.faultRemovalTime .lengthError topic) s = .next t ∧ t.fm.listed (.lengthError topic) = false ∧
      t.fm.list = s.fm.list.filter (fun e => e.id != .lengthError topic) ∧
      (∀ r, r ∈ t.ti.removals ↔ r ∈ s.ti.removals ∧ ¬ (r.fault = .lengthError ∧ r.topic = topic ∧ r.time ≤ s.now)) ∧
      t = { s with ti := { s.ti with removals := t.ti.removals }, fm := t.fm }) ∧
    (∀ f, (∀ r ∈ s.ti.removals, ¬ (r.fault = f ∧ r.topic = topic ∧ r.time ≤ s.now)) → exec (.faultRemovalTime f topic) s = .next s)

/-! ### Arithmetic -/

/-- R17: every torque of the torque range of an allowance has its electrical power inside the allowance. -/
def Obligations.TorqueRangeKeepsTheAllowance : Prop :=
  ∀ n η eLo eHi t : Int, 0 < n → 700 ≤ η → η ≤ 990 → (torqueRange eLo eHi n η).isEmpty = false →
    (torqueRange eLo eHi n η).has t = true → eLo ≤ elecPower t n η ∧ elecPower t n η ≤ eHi

/-- R15: the ends of the torque range by the four lines of its table, none at standstill, and the bounds of the first and third lines tight. -/
def Obligations.TorqueRangeEnds : Prop :=
  ∀ n η eLo eHi : Int, 0 ≤ n → 700 ≤ η → η ≤ 990 →
    (n = 0 → torqueRange eLo eHi n η = ⟨none, none⟩) ∧
    (0 < n → ∃ lo hi : Int, torqueRange eLo eHi n η = ⟨some lo, some hi⟩ ∧
      (0 ≤ eHi → hi = (eHi * 955 * η) / (1000 * n) ∧ eHi < elecPower (hi + 1) n η) ∧
      (eHi < 0 → ∃ m : Int, hi = -m ∧ -eHi * 955000 ≤ m * (n * η) ∧ (m - 1) * (n * η) < -eHi * 955000) ∧
      (eLo ≤ 0 → lo = -((-eLo * 955000) / (n * η)) ∧ elecPower (lo - 1) n η < eLo) ∧
      (0 < eLo → eLo * 955 * η ≤ lo * (1000 * n) ∧ (lo - 1) * (1000 * n) < eLo * 955 * η))

/-- R12: the crank equivalent of an axle torque, and the three properties of its axle contribution. -/
def Obligations.CrankEquivalentFallsShort : Prop :=
  ∀ X g : Int, 250 ≤ g → g ≤ 2000 → ∃ c y : Int, crankOf X g = c ∧ c = (X * 100).tdiv g ∧ axleOf c g = y ∧
    (0 < X → 0 ≤ y) ∧ (X < 0 → y ≤ 0) ∧ (X = 0 → y = 0) ∧ y.natAbs ≤ X.natAbs ∧
    (0 < X → 0 ≤ X - y) ∧ (X < 0 → X - y ≤ 0) ∧ (X = 0 → X - y = 0) ∧ ((X - y).natAbs : Int) ≤ (g + 99) / 100

/-- R11: the axle contribution of a crank torque, and that of the ENG and MGA commands in every plan. -/
def Obligations.AxleContributionIsTruncated : Prop :=
  (∀ c g : Int, 0 ≤ g → axleOf c g = (c * g).tdiv 100 ∧ (g = 0 → axleOf c g = 0) ∧ (c = 0 → axleOf c g = 0) ∧
    (0 < c → 0 ≤ axleOf c g) ∧ (c < 0 → axleOf c g ≤ 0) ∧ 100 * ((axleOf c g).natAbs : Int) ≤ (c.natAbs : Int) * g) ∧
  (∀ (cfg : Cfg) (c : Computation) (r : Plan), (fillPlan cfg c r).engAxle = ((fillPlan cfg c r).eng * c.work.g).tdiv 100 ∧
    (fillPlan cfg c r).mgaAxle = ((fillPlan cfg c r).mga * c.work.g).tdiv 100)

/-- R13: the electrical power of a machine by the table's three lines, at its own shaft speed and efficiency in every plan; it does not fall as the torque rises, and at a nonzero torque and speed it is never 0. -/
def Obligations.ElectricalPowerOfAMachine : Prop :=
  (∀ n η t : Int, 0 ≤ n → 700 ≤ η → η ≤ 990 →
    (t = 0 ∨ n = 0 → elecPower t n η = 0) ∧
    (0 < t → 0 < n → ∃ m : Int, elecPower t n η = m ∧ t * n * 1000 ≤ m * (955 * η) ∧ (m - 1) * (955 * η) < t * n * 1000) ∧
    (t < 0 → 0 < n → ∃ m : Int, elecPower t n η = -m ∧ -t * n * η ≤ m * 955000 ∧ (m - 1) * 955000 < -t * n * η) ∧
    (t ≠ 0 → 0 < n → 1 ≤ (elecPower t n η).natAbs) ∧ (∀ u : Int, 0 < n → t ≤ u → elecPower t n η ≤ elecPower u n η)) ∧
  (∀ (cfg : Cfg) (c : Computation) (r : Plan), ∃ p, p = fillPlan cfg c r ∧
    p.power = elecPower p.mga c.work.nc cfg.etaA + elecPower p.mgb c.work.v cfg.etaB)

/-- R7 to R10: the selected speeds, the clamped demand and the demand power of a computation, from its snapshot and the configuration, and DEMAND_CLIPPED in its plan. -/
def Obligations.WorkingValuesComeFromTheSnapshot : Prop :=
  ∀ (cfg : Cfg) (sn : Snapshot) (now : Nat) (r : Plan), ∃ c w p, c = computationFrom cfg sn now ∧ w = c.work ∧ p = fillPlan cfg c r ∧
    (∀ b st f, sn.slots.brake = .received b st f → st ≠ .stale → w.v = f.axleSpeed) ∧
    (sn.slots.brake = .never ∨ (∃ b f, sn.slots.brake = .received b .stale f) → w.v = cfg.vCap) ∧
    (∀ b st f, sn.slots.engine = .received b st f → st ≠ .stale → w.nc = f.crankSpeed) ∧
    (sn.slots.engine = .never ∨ (∃ b f, sn.slots.engine = .received b .stale f) → w.nc = cfg.nCap) ∧
    (sn.slots.demand = .never ∨ (∃ b d, sn.slots.demand = .received b .stale d) ∨ sn.gear = some .park ∨ sn.part = .windingDown →
      w.dc = 0 ∧ p.flags.demandClipped = false) ∧
    (∀ b st d, sn.slots.demand = .received b st d → st ≠ .stale → sn.gear ≠ some .park → sn.part ≠ .windingDown →
      w.dc = max (-6000) (min d cfg.dCeiling) ∧ (p.flags.demandClipped = true ↔ w.dc ≠ d)) ∧
    w.pdem = (w.dc * w.v).tdiv 955 ∧ (w.dc = 0 ∨ w.v = 0 → w.pdem = 0) ∧
    (0 ≤ w.v → (0 < w.dc → 0 ≤ w.pdem) ∧ (w.dc < 0 → w.pdem ≤ 0)) ∧ p.dc = w.dc

/-! ### Envelope, modes and allocation -/

/-- L4 (R29): the final window lies within the window of the highest-ranked layer that is not open on both sides, and a final window is never empty. -/
def Obligations.FinalWindowObeysTheTopLayer : Prop :=
  ∀ (l : Layers) (pre post : List Window) (w : Window), (∀ x ∈ [l.safety, l.machine, l.battery, l.brake, l.derate, l.calibration], x.isEmpty = false) →
    l.calibration ≠ ⟨none, none⟩ →
    [l.safety, l.machine, l.battery, l.brake, l.derate, l.calibration] = pre ++ w :: post → (∀ x ∈ pre, x = ⟨none, none⟩) → w ≠ ⟨none, none⟩ →
    l.combine.1.isEmpty = false ∧ ∀ x : Int, l.combine.1.has x = true → w.has x = true

/-- R67 with L1 and L2: the settlement of a plan, for every computation. -/
def Obligations.SettlementBalancesThePlan : Prop :=
  ∀ (cfg : Cfg) (c : Computation) (r : Plan), ∃ res : Int, ∃ p, p = fillPlan cfg c r ∧ res = p.dc - p.engAxle - p.mgaAxle - p.mgb ∧
    (res < 0 → p.friction = res ∧ p.shortfall = 0) ∧ (0 < res → p.friction = 0 ∧ p.shortfall = res) ∧
    (res = 0 → p.friction = 0 ∧ p.shortfall = 0) ∧
    p.dc = p.engAxle + p.mgaAxle + p.mgb + p.friction + p.shortfall ∧ p.friction ≤ 0 ∧ 0 ≤ p.shortfall ∧
    (p.friction = 0 ∨ p.shortfall = 0) ∧
    p.engAxle = axleOf p.eng c.work.g ∧ p.mgaAxle = axleOf p.mga c.work.g

/-- L3 and L5 (R69, R70): in the plan of every computation on fields in their intake ranges, the ENG, MGA and MGB commands lie within their final windows, the planned battery power lies within the BATT window where the forced values alone put it there, and ENG is 0 unless the engine ran in the snapshot. -/
def Obligations.CommandsLieInTheirWindows : Prop :=
  ∀ (cfg : Cfg) (sn : Snapshot) (now : Nat) (r : Plan), CfgOk cfg → sn.slots.ok = true →
    ∃ c p, c = computationFrom cfg sn now ∧ p = fillPlan cfg c r ∧ p.Within ∧
    (p.windows.batt.has (elecPower (forcedValue p.windows.mga) c.work.nc cfg.etaA + elecPower (forcedValue p.windows.mgb) c.work.v cfg.etaB) = true →
      p.windows.batt.has p.power = true) ∧
    ((∀ x, sn.slots.engine.live = some x → x.state ≠ .running) → p.eng = 0)

/-- R68: no step of a pass changes the sign of the residual. -/
def Obligations.PassKeepsTheSignOfTheResidual : Prop :=
  ∀ (a : RunInput) (r : Run) (x : Source), (a.g = 0 ∨ (250 ≤ a.g ∧ a.g ≤ 2000)) →
    (0 ≤ r.residual a → 0 ≤ (stepSource a .raise r x).residual a) ∧
    (r.residual a ≤ 0 → (stepSource a .lower r x).residual a ≤ 0) ∧
    (0 ≤ (baseRun a).residual a → 0 ≤ (allocate a).residual a) ∧
    ((baseRun a).residual a ≤ 0 → (allocate a).residual a ≤ 0)

/-- L9 (R51): the pin of an active blend lies between its origin and the unpinned target, both included, for a target in the final ENG window; and in every pinned computation, on fields in their intake ranges and a Mode Selector in its ranges, the plan's ENG command is that pin, its target the ENG command of the unpinned allocation, so that it lies between the two, while an unpinned plan's ENG command is the target itself. -/
def Obligations.BlendPinLiesBetween : Prop :=
  (∀ (b : Blend) (target : Int) (w : Window), b.active = true → 1 ≤ b.factor → b.factor ≤ 32 → w.has target = true →
    min b.origin target ≤ b.pin target w ∧ b.pin target w ≤ max b.origin target ∧ w.has (b.pin target w) = true ∧
    (b.factor = 32 → b.pin target w = target)) ∧
  (∀ (cfg : Cfg) (sn : Snapshot) (now : Nat) (r : Plan), CfgOk cfg → sn.slots.ok = true → ModeSelOk sn.ms →
    ∃ c p target, c = computationFrom cfg sn now ∧ p = fillPlan cfg c r ∧ target = (allocate (runInput cfg c)).eng ∧
    BlendOk c.sel.blend ∧ p.flags.blending = c.sel.blend.active ∧
    (c.sel.blend.active = true → p.eng = c.sel.blend.pin target p.windows.eng ∧
      min c.sel.blend.origin target ≤ p.eng ∧ p.eng ≤ max c.sel.blend.origin target) ∧
    (c.sel.blend.active = false → p.eng = target))

/-- R42: start wanted and stop wanted are never both true in a computation. -/
def Obligations.StartAndStopAreNeverBothWanted : Prop :=
  ∀ (cfg : Cfg) (sn : Snapshot) (now : Nat), ∃ c, c = computationFrom cfg sn now ∧
    ¬ (c.sel.startWanted = true ∧ c.sel.stopWanted = true) ∧
    (c.sel.startWanted = true → c.snap.zone ≠ some .zeroEmission ∧ c.snap.neg ≠ .lockedOut ∧ c.snap.part ≠ .windingDown)

/-- L6 (R136): no ENG telegram whose attempt begins while the confirmed zone is ZERO_EMISSION carries START, and the waiting ENG telegram always carries the request supplied, whatever command runs. -/
def Obligations.ZeroEmissionStopsTheStart : Prop :=
  (∀ s t : State, RequestOk s → step s = .next t → RequestOk t) ∧
  (∀ (s t : State) (a : Attempt) (sp : Setpoint), RequestOk s → s.ti.zone.confirmed = some .zeroEmission → s.bi.tx = none →
    exec .attemptStart s = .next t → t.bi.tx = some a → a.telegram = .setpoint .eng sp → sp.request ≠ .start)

/-! ### Encoding -/

/-- R151, R152: every telegram of a topic of 1 to 511, a source of 0 to 30 and at most 8 words is received, from the bits that carry it, as it was sent. -/
def Obligations.FrameRoundTrip : Prop :=
  ∀ f : Frame, 1 ≤ f.topic → f.topic ≤ 511 → f.source ≤ 30 → f.payload.length ≤ 8 →
    receiveFrame f.bits = some f ∧ f.bits.length = 51 + 16 * f.payload.length

/-! ### Invariants of every step -/

/-- The configuration in force keeps to its ranges (R175), the topic table holds each topic once and at most ten entries (L11), the slots keep to their intake ranges (R100), the Scheduler's marks go together (R81, R84), and the Mode Selector's last engine command, dwell counters and blend record, origin and factor, keep to their ranges (R35, R47, L9), with what the computation in flight will commit. -/
def Obligations.RangesStayKept : Prop :=
  ∀ s t : State, step s = .next t → (CfgOk s.cfg → CfgOk t.cfg) ∧ (TableOk s.ti.table → TableOk t.ti.table) ∧
    (s.ti.slots.ok = true → t.ti.slots.ok = true) ∧ (SchedOk s.cs → SchedOk t.cs) ∧
    (CfgOk s.cfg → ComputationOk s → ModeSelOk s.ms ∧ SelectionOk s → ModeSelOk t.ms ∧ SelectionOk t)

/-- L10 (R166 to R168): the fault list holds at most 16 entries and no fault twice, the overflow flag stands only beside a full list, and the degrading set holds degrading faults alone. -/
def Obligations.FaultListStaysSound : Prop :=
  ∀ s t : State, step s = .next t → FaultsOk s.fm → FaultsOk t.fm

/-- L12 (R142) with the timers of the Negotiator's states, and the quiet of LOADING and SLEEP (R86, R107, R134, R149, R163, R164). -/
def Obligations.PartStaysSettled : Prop :=
  ∀ s t : State, step s = .next t → (NegOk s.en → NegOk t.en) ∧ (Settled s → Settled t)

/-- L8 and R122: the handshake state and the counts of every channel move together. -/
def Obligations.HandshakeStaysSound : Prop :=
  ∀ s t : State, step s = .next t → Settled s → CfgOk s.cfg → EveryChan (fun c => HandshakeOk s.cfg.nRetry (s.cu.get c)) →
    EveryChan (fun c => HandshakeOk t.cfg.nRetry (t.cu.get c))

/-- L7 (R118) and R120: each unanswered-send list holds the latest complete sends in order, at most 4, and the deadline is that of its oldest entry. -/
def Obligations.SendListsStaySound : Prop :=
  ∀ s t : State, step s = .next t →
    (AttemptOk s.bi ∧ EveryChan (fun c => ListOk (s.bi.seqs.get c) (s.cu.get c)) →
      AttemptOk t.bi ∧ EveryChan (fun c => ListOk (t.bi.seqs.get c) (t.cu.get c))) ∧
    (Settled s → EveryChan (fun c => DeadlineOk s.cfg.echoTimeout (s.cu.get c)) →
      EveryChan (fun c => DeadlineOk t.cfg.echoTimeout (t.cu.get c)))

/-- L1, L2 and L3 (R67, R69) for every COMPLETE plan the part holds, whatever command runs: the balance, the windows of the commands, and, for each plan that comes to be held, the planned battery power at the speeds of its computation. -/
def Obligations.CompletePlansStaySound : Prop :=
  ∀ s t : State, step s = .next t →
    (CompletePlans Plan.Balanced s → CompletePlans Plan.Balanced t) ∧
    (Settled s → CfgOk s.cfg → s.ti.slots.ok = true → ComputationOk s → CompletePlans Plan.Within s →
      ComputationOk t ∧ CompletePlans Plan.Within t ∧
      CompletePlans (fun p => s.cs.back = .complete p ∨ s.cs.front = some p ∨ ∃ c ∈ s.cs.inflight, p.PowerKept s.cfg c) t)

/-- R127, R130, R153, R156, R169, R178: CHANNEL_LOST is active exactly for the LOST channels, the shut flags follow the line, the link, its error count and its timer go together and no attempt is under way on a SILENT link, the winding-down timer runs exactly in WINDING_DOWN, and no sleep is overdue. -/
def Obligations.LinesAndTimersStaySound : Prop :=
  ∀ s t : State, step s = .next t → (LostFaultOk s → LostFaultOk t) ∧ (ShutOk s → ShutOk t) ∧ (LinkOk s.bi → LinkOk t.bi) ∧
    (WindingOk s → WindingOk t) ∧ (NoSleepDue s → NoSleepDue t)
end

