-- ==== Sys2Proof/Laws/Faults.lean ====
section
/-! SUPPORT. What raising and removing a fault do to the Fault Monitor (R167, R168). -/

namespace Sys2Proof.Machine

/-- R168: the list after a removal. -/
@[simp] theorem FaultMon.remove_list (m : FaultMon) (f : FaultId) : (m.remove f).list = m.list.filter (fun e => e.id != f) := by
  unfold FaultMon.remove
  split
  · rfl
  · rename_i h
    simp only [FaultMon.listed, Bool.or_eq_true, List.any_eq_true, not_or, not_exists, not_and] at h
    exact (List.filter_eq_self.2 fun e he => by simpa using h.1 e he).symm

/-- R168: the degrading set after a removal. -/
@[simp] theorem FaultMon.remove_degrading (m : FaultMon) (f : FaultId) :
    (m.remove f).degrading = m.degrading.filter (fun d => d != f) := by
  unfold FaultMon.remove
  split
  · rfl
  · rename_i h
    simp only [Bool.or_eq_true, List.contains_iff_mem, not_or] at h
    exact (List.filter_eq_self.2 fun d hd => by
      simp only [bne_iff_ne]; rintro rfl; exact h.2 hd).symm

@[simp] theorem FaultMon.remove_rotation (m : FaultMon) (f : FaultId) : (m.remove f).rotation = m.rotation := by
  unfold FaultMon.remove; split <;> rfl

/-- R168: the overflow flag after a removal that changes something. -/
theorem FaultMon.remove_overflow (m : FaultMon) (f : FaultId) (h : m.listed f = true ∨ f ∈ m.degrading) :
    (m.remove f).overflow = (m.overflow && decide (16 ≤ (m.remove f).list.length)) := by
  have h' : (m.listed f || m.degrading.contains f) = true := by simpa using h
  rw [FaultMon.remove_list]; unfold FaultMon.remove; rw [if_pos h']

theorem FaultMon.listed_remove_self (m : FaultMon) (f : FaultId) : (m.remove f).listed f = false := by
  simp [FaultMon.listed]

theorem FaultMon.listed_remove_of_ne (m : FaultMon) {f g : FaultId} (h : g ≠ f) : (m.remove f).listed g = m.listed g := by
  rw [Bool.eq_iff_iff]
  simp only [FaultMon.listed, FaultMon.remove_list, List.any_eq_true, List.mem_filter, bne_iff_ne, beq_iff_eq]
  constructor
  · rintro ⟨e, ⟨he, -⟩, hg⟩; exact ⟨e, he, hg⟩
  · rintro ⟨e, he, rfl⟩; exact ⟨e, ⟨he, h⟩, rfl⟩

theorem FaultMon.mem_degrading_remove (m : FaultMon) (f g : FaultId) :
    g ∈ (m.remove f).degrading ↔ g ∈ m.degrading ∧ g ≠ f := by simp

/-- R167: the degrading set after a raise. -/
theorem FaultMon.raise_degrading (m : FaultMon) (f : FaultId) (t : Nat) : (m.raise f t).degrading =
    if f.isDegrading = true ∧ f ∉ m.degrading then m.degrading ++ [f] else m.degrading := by
  have : (m.raise f t).degrading = if f.isDegrading && !m.degrading.contains f then m.degrading ++ [f] else m.degrading := by
    simp only [FaultMon.raise]; split
    · rfl
    · split <;> rfl
  simp [this]

theorem FaultMon.mem_degrading_raise (m : FaultMon) (f g : FaultId) (t : Nat) :
    g ∈ (m.raise f t).degrading ↔ g ∈ m.degrading ∨ (g = f ∧ f.isDegrading = true) := by
  rw [FaultMon.raise_degrading]; split
  · simp_all
  · rename_i h
    simp only [not_and, not_not] at h
    exact ⟨Or.inl, fun hg => hg.elim id fun ⟨e, hd⟩ => e ▸ h hd⟩

/-- R167, steps 2 to 4: the list and the overflow flag after a raise. -/
theorem FaultMon.raise_cases (m : FaultMon) (f : FaultId) (t : Nat) :
    (m.listed f = true ∧ (m.raise f t).list = m.list.map (fun e => if e.id = f then e.again else e) ∧ (m.raise f t).overflow = m.overflow) ∨
    (m.listed f = false ∧ m.list.length < 16 ∧ (m.raise f t).list = m.list ++ [⟨f, t, 1⟩] ∧ (m.raise f t).overflow = m.overflow) ∨
    (m.listed f = false ∧ 16 ≤ m.list.length ∧ (m.raise f t).list = m.list ∧ (m.raise f t).overflow = true) := by
  unfold FaultMon.raise
  by_cases h : m.listed f = true
  · exact .inl ⟨h, by simp [h], by simp [h]⟩
  · rw [Bool.not_eq_true] at h
    by_cases h2 : m.list.length < 16
    · exact .inr (.inl ⟨h, h2, by simp [h, h2], by simp [h, h2]⟩)
    · exact .inr (.inr ⟨h, by omega, by simp [h, h2], by simp [h, h2]⟩)

@[simp] theorem FaultMon.raise_rotation (m : FaultMon) (f : FaultId) (t : Nat) : (m.raise f t).rotation = m.rotation := by
  unfold FaultMon.raise; dsimp only; (repeat' split) <;> rfl

theorem FaultEntry.again_id (e : FaultEntry) : e.again.id = e.id := rfl

/-- A raise names no other fault in the list. -/
theorem FaultMon.listed_raise_of_ne (m : FaultMon) {f g : FaultId} (t : Nat) (h : g ≠ f) : (m.raise f t).listed g = m.listed g := by
  rcases m.raise_cases f t with ⟨-, hl, -⟩ | ⟨-, -, hl, -⟩ | ⟨-, -, hl, -⟩
  · simp only [FaultMon.listed, hl, List.any_map]
    congr 1; funext e; dsimp only [Function.comp]; split <;> rfl
  · simp [FaultMon.listed, hl, Ne.symm h]
  · simp [FaultMon.listed, hl]

/-- A raise of a degrading fault asserts FAULT (R169). -/
theorem State.faultLine_raise (s : State) (f : FaultId) (h : f.isDegrading = true) : (s.raise f).faultLine = true := by
  have : f ∈ (s.fm.raise f s.now).degrading := (FaultMon.mem_degrading_raise ..).2 (.inr ⟨rfl, h⟩)
  cases hd : (s.fm.raise f s.now).degrading with
  | nil => rw [hd] at this; cases this
  | cons a l => simp [State.faultLine, State.raise, State.withFm, hd]

/-- The order of two changes that one command makes shows in no other block, and both changes are made in either (log entry 5). -/
theorem State.eitherFirst_fm (s : State) (f g : FaultMon → FaultMon) :
    (s.eitherFirst f g).fm = g (f s.fm) ∨ (s.eitherFirst f g).fm = f (g s.fm) := by
  unfold State.eitherFirst
  split
  · exact .inl rfl
  · split
    · exact .inl rfl
    · exact .inr rfl

/-- The fault list after an operation and a change that no rule orders: the change made first or last, never in between (log entry 5). -/
theorem State.aroundFault_fm (s : State) (g : FaultMon → FaultMon) (op : State → State) :
    (s.aroundFault g op).fm = (op (s.withFm (g s.fm))).fm ∨ (s.aroundFault g op).fm = g (op s).fm :=
  s.eitherFirst_fm g (fun m => (op (s.withFm m)).fm)

/-- R173: removals one after another. -/
theorem FaultMon.removeAll (m : FaultMon) (l : List FaultId) :
    (l.foldl FaultMon.remove m).list = m.list.filter (fun e => !l.contains e.id) ∧
    (l.foldl FaultMon.remove m).degrading = m.degrading.filter (fun d => !l.contains d) ∧
    (l.foldl FaultMon.remove m).rotation = m.rotation ∧
    ((l.foldl FaultMon.remove m).overflow = true ↔ m.overflow = true ∧ (16 ≤ (l.foldl FaultMon.remove m).list.length ∨
      ((l.foldl FaultMon.remove m).list = m.list ∧ (l.foldl FaultMon.remove m).degrading = m.degrading))) := by
  induction l generalizing m with
  | nil => simp
  | cons f l ih =>
    obtain ⟨h1, h2, h3, h4⟩ := ih (m.remove f)
    refine ⟨?_, ?_, ?_, ?_⟩
    · rw [List.foldl_cons, h1, FaultMon.remove_list, List.filter_filter]
      congr 1; funext e; simp [Bool.and_comm]; by_cases h : e.id = f <;> simp [h]
    · rw [List.foldl_cons, h2, FaultMon.remove_degrading, List.filter_filter]
      congr 1; funext e; simp [Bool.and_comm]; by_cases h : e = f <;> simp [h]
    · rw [List.foldl_cons, h3, FaultMon.remove_rotation]
    · rw [List.foldl_cons, h4]
      by_cases h : m.listed f = true ∨ f ∈ m.degrading
      · rw [FaultMon.remove_overflow _ _ h]
        have hl : (l.foldl FaultMon.remove (m.remove f)).list.length ≤ (m.remove f).list.length := by
          rw [h1]; exact List.length_filter_le ..
        have hn : ¬ ((l.foldl FaultMon.remove (m.remove f)).list = m.list ∧ (l.foldl FaultMon.remove (m.remove f)).degrading = m.degrading) := by
          rintro ⟨e1, e2⟩
          rcases h with h | h
          · simp only [FaultMon.listed, List.any_eq_true, beq_iff_eq] at h
            obtain ⟨x, hx, hf⟩ := h
            rw [← e1, h1, FaultMon.remove_list] at hx
            simp [hf] at hx
          · rw [← e2, h2, FaultMon.remove_degrading] at h
            simp at h
        simp only [Bool.and_eq_true, decide_eq_true_eq]
        constructor
        · rintro ⟨⟨a, b⟩, c | ⟨c, -⟩⟩
          · exact ⟨a, .inl c⟩
          · exact ⟨a, .inl (c ▸ b)⟩
        · rintro ⟨a, c | c⟩
          · exact ⟨⟨a, by omega⟩, .inl c⟩
          · exact absurd c hn
      · have : m.remove f = m := by unfold FaultMon.remove; rw [if_neg]; simpa using h
        rw [this]

end Sys2Proof.Machine
end

