-- ==== Sys2Proof/Laws/State.lean ====
section
/-! SUPPORT. One lemma for each field under each update of the state, so that no proof unfolds a record update. -/

namespace Sys2Proof.Machine

@[simp] theorem State.withNow_now (s : State) (x : Nat) : (s.withNow x).now = x := rfl
@[simp] theorem State.withNow_pins (s : State) (x : Nat) : (s.withNow x).pins = s.pins := rfl
@[simp] theorem State.withNow_cfg (s : State) (x : Nat) : (s.withNow x).cfg = s.cfg := rfl
@[simp] theorem State.withNow_su (s : State) (x : Nat) : (s.withNow x).su = s.su := rfl
@[simp] theorem State.withNow_bi (s : State) (x : Nat) : (s.withNow x).bi = s.bi := rfl
@[simp] theorem State.withNow_ti (s : State) (x : Nat) : (s.withNow x).ti = s.ti := rfl
@[simp] theorem State.withNow_cs (s : State) (x : Nat) : (s.withNow x).cs = s.cs := rfl
@[simp] theorem State.withNow_eb (s : State) (x : Nat) : (s.withNow x).eb = s.eb := rfl
@[simp] theorem State.withNow_ms (s : State) (x : Nat) : (s.withNow x).ms = s.ms := rfl
@[simp] theorem State.withNow_cu (s : State) (x : Nat) : (s.withNow x).cu = s.cu := rfl
@[simp] theorem State.withNow_en (s : State) (x : Nat) : (s.withNow x).en = s.en := rfl
@[simp] theorem State.withNow_fm (s : State) (x : Nat) : (s.withNow x).fm = s.fm := rfl
@[simp] theorem State.withNow_free (s : State) (x : Nat) : (s.withNow x).free = s.free := rfl
@[simp] theorem State.withNow_pending (s : State) (x : Nat) : (s.withNow x).pending = s.pending := rfl

@[simp] theorem State.withPins_now (s : State) (x : Pins) : (s.withPins x).now = s.now := rfl
@[simp] theorem State.withPins_pins (s : State) (x : Pins) : (s.withPins x).pins = x := rfl
@[simp] theorem State.withPins_cfg (s : State) (x : Pins) : (s.withPins x).cfg = s.cfg := rfl
@[simp] theorem State.withPins_su (s : State) (x : Pins) : (s.withPins x).su = s.su := rfl
@[simp] theorem State.withPins_bi (s : State) (x : Pins) : (s.withPins x).bi = s.bi := rfl
@[simp] theorem State.withPins_ti (s : State) (x : Pins) : (s.withPins x).ti = s.ti := rfl
@[simp] theorem State.withPins_cs (s : State) (x : Pins) : (s.withPins x).cs = s.cs := rfl
@[simp] theorem State.withPins_eb (s : State) (x : Pins) : (s.withPins x).eb = s.eb := rfl
@[simp] theorem State.withPins_ms (s : State) (x : Pins) : (s.withPins x).ms = s.ms := rfl
@[simp] theorem State.withPins_cu (s : State) (x : Pins) : (s.withPins x).cu = s.cu := rfl
@[simp] theorem State.withPins_en (s : State) (x : Pins) : (s.withPins x).en = s.en := rfl
@[simp] theorem State.withPins_fm (s : State) (x : Pins) : (s.withPins x).fm = s.fm := rfl
@[simp] theorem State.withPins_free (s : State) (x : Pins) : (s.withPins x).free = s.free := rfl
@[simp] theorem State.withPins_pending (s : State) (x : Pins) : (s.withPins x).pending = s.pending := rfl

@[simp] theorem State.withCfg_now (s : State) (x : Cfg) : (s.withCfg x).now = s.now := rfl
@[simp] theorem State.withCfg_pins (s : State) (x : Cfg) : (s.withCfg x).pins = s.pins := rfl
@[simp] theorem State.withCfg_cfg (s : State) (x : Cfg) : (s.withCfg x).cfg = x := rfl
@[simp] theorem State.withCfg_su (s : State) (x : Cfg) : (s.withCfg x).su = s.su := rfl
@[simp] theorem State.withCfg_bi (s : State) (x : Cfg) : (s.withCfg x).bi = s.bi := rfl
@[simp] theorem State.withCfg_ti (s : State) (x : Cfg) : (s.withCfg x).ti = s.ti := rfl
@[simp] theorem State.withCfg_cs (s : State) (x : Cfg) : (s.withCfg x).cs = s.cs := rfl
@[simp] theorem State.withCfg_eb (s : State) (x : Cfg) : (s.withCfg x).eb = s.eb := rfl
@[simp] theorem State.withCfg_ms (s : State) (x : Cfg) : (s.withCfg x).ms = s.ms := rfl
@[simp] theorem State.withCfg_cu (s : State) (x : Cfg) : (s.withCfg x).cu = s.cu := rfl
@[simp] theorem State.withCfg_en (s : State) (x : Cfg) : (s.withCfg x).en = s.en := rfl
@[simp] theorem State.withCfg_fm (s : State) (x : Cfg) : (s.withCfg x).fm = s.fm := rfl
@[simp] theorem State.withCfg_free (s : State) (x : Cfg) : (s.withCfg x).free = s.free := rfl
@[simp] theorem State.withCfg_pending (s : State) (x : Cfg) : (s.withCfg x).pending = s.pending := rfl

@[simp] theorem State.withSu_now (s : State) (x : Startup) : (s.withSu x).now = s.now := rfl
@[simp] theorem State.withSu_pins (s : State) (x : Startup) : (s.withSu x).pins = s.pins := rfl
@[simp] theorem State.withSu_cfg (s : State) (x : Startup) : (s.withSu x).cfg = s.cfg := rfl
@[simp] theorem State.withSu_su (s : State) (x : Startup) : (s.withSu x).su = x := rfl
@[simp] theorem State.withSu_bi (s : State) (x : Startup) : (s.withSu x).bi = s.bi := rfl
@[simp] theorem State.withSu_ti (s : State) (x : Startup) : (s.withSu x).ti = s.ti := rfl
@[simp] theorem State.withSu_cs (s : State) (x : Startup) : (s.withSu x).cs = s.cs := rfl
@[simp] theorem State.withSu_eb (s : State) (x : Startup) : (s.withSu x).eb = s.eb := rfl
@[simp] theorem State.withSu_ms (s : State) (x : Startup) : (s.withSu x).ms = s.ms := rfl
@[simp] theorem State.withSu_cu (s : State) (x : Startup) : (s.withSu x).cu = s.cu := rfl
@[simp] theorem State.withSu_en (s : State) (x : Startup) : (s.withSu x).en = s.en := rfl
@[simp] theorem State.withSu_fm (s : State) (x : Startup) : (s.withSu x).fm = s.fm := rfl
@[simp] theorem State.withSu_free (s : State) (x : Startup) : (s.withSu x).free = s.free := rfl
@[simp] theorem State.withSu_pending (s : State) (x : Startup) : (s.withSu x).pending = s.pending := rfl

@[simp] theorem State.withBi_now (s : State) (x : Bus) : (s.withBi x).now = s.now := rfl
@[simp] theorem State.withBi_pins (s : State) (x : Bus) : (s.withBi x).pins = s.pins := rfl
@[simp] theorem State.withBi_cfg (s : State) (x : Bus) : (s.withBi x).cfg = s.cfg := rfl
@[simp] theorem State.withBi_su (s : State) (x : Bus) : (s.withBi x).su = s.su := rfl
@[simp] theorem State.withBi_bi (s : State) (x : Bus) : (s.withBi x).bi = x := rfl
@[simp] theorem State.withBi_ti (s : State) (x : Bus) : (s.withBi x).ti = s.ti := rfl
@[simp] theorem State.withBi_cs (s : State) (x : Bus) : (s.withBi x).cs = s.cs := rfl
@[simp] theorem State.withBi_eb (s : State) (x : Bus) : (s.withBi x).eb = s.eb := rfl
@[simp] theorem State.withBi_ms (s : State) (x : Bus) : (s.withBi x).ms = s.ms := rfl
@[simp] theorem State.withBi_cu (s : State) (x : Bus) : (s.withBi x).cu = s.cu := rfl
@[simp] theorem State.withBi_en (s : State) (x : Bus) : (s.withBi x).en = s.en := rfl
@[simp] theorem State.withBi_fm (s : State) (x : Bus) : (s.withBi x).fm = s.fm := rfl
@[simp] theorem State.withBi_free (s : State) (x : Bus) : (s.withBi x).free = s.free := rfl
@[simp] theorem State.withBi_pending (s : State) (x : Bus) : (s.withBi x).pending = s.pending := rfl

@[simp] theorem State.withTi_now (s : State) (x : Intake) : (s.withTi x).now = s.now := rfl
@[simp] theorem State.withTi_pins (s : State) (x : Intake) : (s.withTi x).pins = s.pins := rfl
@[simp] theorem State.withTi_cfg (s : State) (x : Intake) : (s.withTi x).cfg = s.cfg := rfl
@[simp] theorem State.withTi_su (s : State) (x : Intake) : (s.withTi x).su = s.su := rfl
@[simp] theorem State.withTi_bi (s : State) (x : Intake) : (s.withTi x).bi = s.bi := rfl
@[simp] theorem State.withTi_ti (s : State) (x : Intake) : (s.withTi x).ti = x := rfl
@[simp] theorem State.withTi_cs (s : State) (x : Intake) : (s.withTi x).cs = s.cs := rfl
@[simp] theorem State.withTi_eb (s : State) (x : Intake) : (s.withTi x).eb = s.eb := rfl
@[simp] theorem State.withTi_ms (s : State) (x : Intake) : (s.withTi x).ms = s.ms := rfl
@[simp] theorem State.withTi_cu (s : State) (x : Intake) : (s.withTi x).cu = s.cu := rfl
@[simp] theorem State.withTi_en (s : State) (x : Intake) : (s.withTi x).en = s.en := rfl
@[simp] theorem State.withTi_fm (s : State) (x : Intake) : (s.withTi x).fm = s.fm := rfl
@[simp] theorem State.withTi_free (s : State) (x : Intake) : (s.withTi x).free = s.free := rfl
@[simp] theorem State.withTi_pending (s : State) (x : Intake) : (s.withTi x).pending = s.pending := rfl

@[simp] theorem State.withCs_now (s : State) (x : Sched) : (s.withCs x).now = s.now := rfl
@[simp] theorem State.withCs_pins (s : State) (x : Sched) : (s.withCs x).pins = s.pins := rfl
@[simp] theorem State.withCs_cfg (s : State) (x : Sched) : (s.withCs x).cfg = s.cfg := rfl
@[simp] theorem State.withCs_su (s : State) (x : Sched) : (s.withCs x).su = s.su := rfl
@[simp] theorem State.withCs_bi (s : State) (x : Sched) : (s.withCs x).bi = s.bi := rfl
@[simp] theorem State.withCs_ti (s : State) (x : Sched) : (s.withCs x).ti = s.ti := rfl
@[simp] theorem State.withCs_cs (s : State) (x : Sched) : (s.withCs x).cs = x := rfl
@[simp] theorem State.withCs_eb (s : State) (x : Sched) : (s.withCs x).eb = s.eb := rfl
@[simp] theorem State.withCs_ms (s : State) (x : Sched) : (s.withCs x).ms = s.ms := rfl
@[simp] theorem State.withCs_cu (s : State) (x : Sched) : (s.withCs x).cu = s.cu := rfl
@[simp] theorem State.withCs_en (s : State) (x : Sched) : (s.withCs x).en = s.en := rfl
@[simp] theorem State.withCs_fm (s : State) (x : Sched) : (s.withCs x).fm = s.fm := rfl
@[simp] theorem State.withCs_free (s : State) (x : Sched) : (s.withCs x).free = s.free := rfl
@[simp] theorem State.withCs_pending (s : State) (x : Sched) : (s.withCs x).pending = s.pending := rfl

@[simp] theorem State.withEb_now (s : State) (x : Overrides) : (s.withEb x).now = s.now := rfl
@[simp] theorem State.withEb_pins (s : State) (x : Overrides) : (s.withEb x).pins = s.pins := rfl
@[simp] theorem State.withEb_cfg (s : State) (x : Overrides) : (s.withEb x).cfg = s.cfg := rfl
@[simp] theorem State.withEb_su (s : State) (x : Overrides) : (s.withEb x).su = s.su := rfl
@[simp] theorem State.withEb_bi (s : State) (x : Overrides) : (s.withEb x).bi = s.bi := rfl
@[simp] theorem State.withEb_ti (s : State) (x : Overrides) : (s.withEb x).ti = s.ti := rfl
@[simp] theorem State.withEb_cs (s : State) (x : Overrides) : (s.withEb x).cs = s.cs := rfl
@[simp] theorem State.withEb_eb (s : State) (x : Overrides) : (s.withEb x).eb = x := rfl
@[simp] theorem State.withEb_ms (s : State) (x : Overrides) : (s.withEb x).ms = s.ms := rfl
@[simp] theorem State.withEb_cu (s : State) (x : Overrides) : (s.withEb x).cu = s.cu := rfl
@[simp] theorem State.withEb_en (s : State) (x : Overrides) : (s.withEb x).en = s.en := rfl
@[simp] theorem State.withEb_fm (s : State) (x : Overrides) : (s.withEb x).fm = s.fm := rfl
@[simp] theorem State.withEb_free (s : State) (x : Overrides) : (s.withEb x).free = s.free := rfl
@[simp] theorem State.withEb_pending (s : State) (x : Overrides) : (s.withEb x).pending = s.pending := rfl

@[simp] theorem State.withMs_now (s : State) (x : ModeSel) : (s.withMs x).now = s.now := rfl
@[simp] theorem State.withMs_pins (s : State) (x : ModeSel) : (s.withMs x).pins = s.pins := rfl
@[simp] theorem State.withMs_cfg (s : State) (x : ModeSel) : (s.withMs x).cfg = s.cfg := rfl
@[simp] theorem State.withMs_su (s : State) (x : ModeSel) : (s.withMs x).su = s.su := rfl
@[simp] theorem State.withMs_bi (s : State) (x : ModeSel) : (s.withMs x).bi = s.bi := rfl
@[simp] theorem State.withMs_ti (s : State) (x : ModeSel) : (s.withMs x).ti = s.ti := rfl
@[simp] theorem State.withMs_cs (s : State) (x : ModeSel) : (s.withMs x).cs = s.cs := rfl
@[simp] theorem State.withMs_eb (s : State) (x : ModeSel) : (s.withMs x).eb = s.eb := rfl
@[simp] theorem State.withMs_ms (s : State) (x : ModeSel) : (s.withMs x).ms = x := rfl
@[simp] theorem State.withMs_cu (s : State) (x : ModeSel) : (s.withMs x).cu = s.cu := rfl
@[simp] theorem State.withMs_en (s : State) (x : ModeSel) : (s.withMs x).en = s.en := rfl
@[simp] theorem State.withMs_fm (s : State) (x : ModeSel) : (s.withMs x).fm = s.fm := rfl
@[simp] theorem State.withMs_free (s : State) (x : ModeSel) : (s.withMs x).free = s.free := rfl
@[simp] theorem State.withMs_pending (s : State) (x : ModeSel) : (s.withMs x).pending = s.pending := rfl

@[simp] theorem State.withCu_now (s : State) (x : PerChan Channel) : (s.withCu x).now = s.now := rfl
@[simp] theorem State.withCu_pins (s : State) (x : PerChan Channel) : (s.withCu x).pins = s.pins := rfl
@[simp] theorem State.withCu_cfg (s : State) (x : PerChan Channel) : (s.withCu x).cfg = s.cfg := rfl
@[simp] theorem State.withCu_su (s : State) (x : PerChan Channel) : (s.withCu x).su = s.su := rfl
@[simp] theorem State.withCu_bi (s : State) (x : PerChan Channel) : (s.withCu x).bi = s.bi := rfl
@[simp] theorem State.withCu_ti (s : State) (x : PerChan Channel) : (s.withCu x).ti = s.ti := rfl
@[simp] theorem State.withCu_cs (s : State) (x : PerChan Channel) : (s.withCu x).cs = s.cs := rfl
@[simp] theorem State.withCu_eb (s : State) (x : PerChan Channel) : (s.withCu x).eb = s.eb := rfl
@[simp] theorem State.withCu_ms (s : State) (x : PerChan Channel) : (s.withCu x).ms = s.ms := rfl
@[simp] theorem State.withCu_cu (s : State) (x : PerChan Channel) : (s.withCu x).cu = x := rfl
@[simp] theorem State.withCu_en (s : State) (x : PerChan Channel) : (s.withCu x).en = s.en := rfl
@[simp] theorem State.withCu_fm (s : State) (x : PerChan Channel) : (s.withCu x).fm = s.fm := rfl
@[simp] theorem State.withCu_free (s : State) (x : PerChan Channel) : (s.withCu x).free = s.free := rfl
@[simp] theorem State.withCu_pending (s : State) (x : PerChan Channel) : (s.withCu x).pending = s.pending := rfl

@[simp] theorem State.withEn_now (s : State) (x : Neg) : (s.withEn x).now = s.now := rfl
@[simp] theorem State.withEn_pins (s : State) (x : Neg) : (s.withEn x).pins = s.pins := rfl
@[simp] theorem State.withEn_cfg (s : State) (x : Neg) : (s.withEn x).cfg = s.cfg := rfl
@[simp] theorem State.withEn_su (s : State) (x : Neg) : (s.withEn x).su = s.su := rfl
@[simp] theorem State.withEn_bi (s : State) (x : Neg) : (s.withEn x).bi = s.bi := rfl
@[simp] theorem State.withEn_ti (s : State) (x : Neg) : (s.withEn x).ti = s.ti := rfl
@[simp] theorem State.withEn_cs (s : State) (x : Neg) : (s.withEn x).cs = s.cs := rfl
@[simp] theorem State.withEn_eb (s : State) (x : Neg) : (s.withEn x).eb = s.eb := rfl
@[simp] theorem State.withEn_ms (s : State) (x : Neg) : (s.withEn x).ms = s.ms := rfl
@[simp] theorem State.withEn_cu (s : State) (x : Neg) : (s.withEn x).cu = s.cu := rfl
@[simp] theorem State.withEn_en (s : State) (x : Neg) : (s.withEn x).en = x := rfl
@[simp] theorem State.withEn_fm (s : State) (x : Neg) : (s.withEn x).fm = s.fm := rfl
@[simp] theorem State.withEn_free (s : State) (x : Neg) : (s.withEn x).free = s.free := rfl
@[simp] theorem State.withEn_pending (s : State) (x : Neg) : (s.withEn x).pending = s.pending := rfl

@[simp] theorem State.withFm_now (s : State) (x : FaultMon) : (s.withFm x).now = s.now := rfl
@[simp] theorem State.withFm_pins (s : State) (x : FaultMon) : (s.withFm x).pins = s.pins := rfl
@[simp] theorem State.withFm_cfg (s : State) (x : FaultMon) : (s.withFm x).cfg = s.cfg := rfl
@[simp] theorem State.withFm_su (s : State) (x : FaultMon) : (s.withFm x).su = s.su := rfl
@[simp] theorem State.withFm_bi (s : State) (x : FaultMon) : (s.withFm x).bi = s.bi := rfl
@[simp] theorem State.withFm_ti (s : State) (x : FaultMon) : (s.withFm x).ti = s.ti := rfl
@[simp] theorem State.withFm_cs (s : State) (x : FaultMon) : (s.withFm x).cs = s.cs := rfl
@[simp] theorem State.withFm_eb (s : State) (x : FaultMon) : (s.withFm x).eb = s.eb := rfl
@[simp] theorem State.withFm_ms (s : State) (x : FaultMon) : (s.withFm x).ms = s.ms := rfl
@[simp] theorem State.withFm_cu (s : State) (x : FaultMon) : (s.withFm x).cu = s.cu := rfl
@[simp] theorem State.withFm_en (s : State) (x : FaultMon) : (s.withFm x).en = s.en := rfl
@[simp] theorem State.withFm_fm (s : State) (x : FaultMon) : (s.withFm x).fm = x := rfl
@[simp] theorem State.withFm_free (s : State) (x : FaultMon) : (s.withFm x).free = s.free := rfl
@[simp] theorem State.withFm_pending (s : State) (x : FaultMon) : (s.withFm x).pending = s.pending := rfl

@[simp] theorem State.withFree_now (s : State) (x : Nat) : (s.withFree x).now = s.now := rfl
@[simp] theorem State.withFree_pins (s : State) (x : Nat) : (s.withFree x).pins = s.pins := rfl
@[simp] theorem State.withFree_cfg (s : State) (x : Nat) : (s.withFree x).cfg = s.cfg := rfl
@[simp] theorem State.withFree_su (s : State) (x : Nat) : (s.withFree x).su = s.su := rfl
@[simp] theorem State.withFree_bi (s : State) (x : Nat) : (s.withFree x).bi = s.bi := rfl
@[simp] theorem State.withFree_ti (s : State) (x : Nat) : (s.withFree x).ti = s.ti := rfl
@[simp] theorem State.withFree_cs (s : State) (x : Nat) : (s.withFree x).cs = s.cs := rfl
@[simp] theorem State.withFree_eb (s : State) (x : Nat) : (s.withFree x).eb = s.eb := rfl
@[simp] theorem State.withFree_ms (s : State) (x : Nat) : (s.withFree x).ms = s.ms := rfl
@[simp] theorem State.withFree_cu (s : State) (x : Nat) : (s.withFree x).cu = s.cu := rfl
@[simp] theorem State.withFree_en (s : State) (x : Nat) : (s.withFree x).en = s.en := rfl
@[simp] theorem State.withFree_fm (s : State) (x : Nat) : (s.withFree x).fm = s.fm := rfl
@[simp] theorem State.withFree_free (s : State) (x : Nat) : (s.withFree x).free = x := rfl
@[simp] theorem State.withFree_pending (s : State) (x : Nat) : (s.withFree x).pending = s.pending := rfl

@[simp] theorem State.withPending_now (s : State) (x : List Instr) : (s.withPending x).now = s.now := rfl
@[simp] theorem State.withPending_pins (s : State) (x : List Instr) : (s.withPending x).pins = s.pins := rfl
@[simp] theorem State.withPending_cfg (s : State) (x : List Instr) : (s.withPending x).cfg = s.cfg := rfl
@[simp] theorem State.withPending_su (s : State) (x : List Instr) : (s.withPending x).su = s.su := rfl
@[simp] theorem State.withPending_bi (s : State) (x : List Instr) : (s.withPending x).bi = s.bi := rfl
@[simp] theorem State.withPending_ti (s : State) (x : List Instr) : (s.withPending x).ti = s.ti := rfl
@[simp] theorem State.withPending_cs (s : State) (x : List Instr) : (s.withPending x).cs = s.cs := rfl
@[simp] theorem State.withPending_eb (s : State) (x : List Instr) : (s.withPending x).eb = s.eb := rfl
@[simp] theorem State.withPending_ms (s : State) (x : List Instr) : (s.withPending x).ms = s.ms := rfl
@[simp] theorem State.withPending_cu (s : State) (x : List Instr) : (s.withPending x).cu = s.cu := rfl
@[simp] theorem State.withPending_en (s : State) (x : List Instr) : (s.withPending x).en = s.en := rfl
@[simp] theorem State.withPending_fm (s : State) (x : List Instr) : (s.withPending x).fm = s.fm := rfl
@[simp] theorem State.withPending_free (s : State) (x : List Instr) : (s.withPending x).free = s.free := rfl
@[simp] theorem State.withPending_pending (s : State) (x : List Instr) : (s.withPending x).pending = x := rfl

end Sys2Proof.Machine
end

