-- ==== Sys2Proof/Laws/Frames.lean ====
section
/-! SUPPORT. The frame of every shared operation: one lemma each, that names every block it leaves as it is; as a simp lemma it rewrites each of them. -/

namespace Sys2Proof.Machine

@[simp] theorem State.raise_frame (s : State) (f : FaultId) :
    (s.raise f).now = s.now ∧ (s.raise f).pins = s.pins ∧ (s.raise f).cfg = s.cfg ∧ (s.raise f).su = s.su ∧ (s.raise f).bi = s.bi ∧
    (s.raise f).ti = s.ti ∧ (s.raise f).cs = s.cs ∧ (s.raise f).eb = s.eb ∧ (s.raise f).ms = s.ms ∧ (s.raise f).cu = s.cu ∧
    (s.raise f).en = s.en ∧ (s.raise f).free = s.free ∧ (s.raise f).pending = s.pending := by
  refine ⟨rfl, rfl, rfl, rfl, rfl, rfl, rfl, rfl, rfl, rfl, rfl, rfl, rfl⟩

@[simp] theorem State.remove_frame (s : State) (f : FaultId) :
    (s.remove f).now = s.now ∧ (s.remove f).pins = s.pins ∧ (s.remove f).cfg = s.cfg ∧ (s.remove f).su = s.su ∧ (s.remove f).bi = s.bi ∧
    (s.remove f).ti = s.ti ∧ (s.remove f).cs = s.cs ∧ (s.remove f).eb = s.eb ∧ (s.remove f).ms = s.ms ∧ (s.remove f).cu = s.cu ∧
    (s.remove f).en = s.en ∧ (s.remove f).free = s.free ∧ (s.remove f).pending = s.pending := by
  refine ⟨rfl, rfl, rfl, rfl, rfl, rfl, rfl, rfl, rfl, rfl, rfl, rfl, rfl⟩

@[simp] theorem State.withChan_frame (s : State) (c : Chan) (ch : Channel) :
    (s.withChan c ch).now = s.now ∧ (s.withChan c ch).pins = s.pins ∧ (s.withChan c ch).cfg = s.cfg ∧ (s.withChan c ch).su = s.su ∧
    (s.withChan c ch).bi = s.bi ∧ (s.withChan c ch).ti = s.ti ∧ (s.withChan c ch).cs = s.cs ∧ (s.withChan c ch).eb = s.eb ∧
    (s.withChan c ch).ms = s.ms ∧ (s.withChan c ch).en = s.en ∧ (s.withChan c ch).fm = s.fm ∧ (s.withChan c ch).free = s.free ∧
    (s.withChan c ch).pending = s.pending := by
  refine ⟨rfl, rfl, rfl, rfl, rfl, rfl, rfl, rfl, rfl, rfl, rfl, rfl, rfl⟩

@[simp] theorem State.withWaiting_frame (s : State) (c : Chan) (sp : Option Setpoint) :
    (s.withWaiting c sp).now = s.now ∧ (s.withWaiting c sp).pins = s.pins ∧ (s.withWaiting c sp).cfg = s.cfg ∧
    (s.withWaiting c sp).su = s.su ∧ (s.withWaiting c sp).ti = s.ti ∧ (s.withWaiting c sp).cs = s.cs ∧ (s.withWaiting c sp).eb = s.eb ∧
    (s.withWaiting c sp).ms = s.ms ∧ (s.withWaiting c sp).cu = s.cu ∧ (s.withWaiting c sp).en = s.en ∧ (s.withWaiting c sp).fm = s.fm ∧
    (s.withWaiting c sp).free = s.free ∧ (s.withWaiting c sp).pending = s.pending := by
  refine ⟨rfl, rfl, rfl, rfl, rfl, rfl, rfl, rfl, rfl, rfl, rfl, rfl, rfl⟩

@[simp] theorem State.eitherFirst_frame (s : State) (f g : FaultMon → FaultMon) :
    (s.eitherFirst f g).now = s.now ∧ (s.eitherFirst f g).pins = s.pins ∧ (s.eitherFirst f g).cfg = s.cfg ∧
    (s.eitherFirst f g).su = s.su ∧ (s.eitherFirst f g).bi = s.bi ∧ (s.eitherFirst f g).ti = s.ti ∧ (s.eitherFirst f g).cs = s.cs ∧
    (s.eitherFirst f g).eb = s.eb ∧ (s.eitherFirst f g).ms = s.ms ∧ (s.eitherFirst f g).cu = s.cu ∧ (s.eitherFirst f g).en = s.en ∧
    (s.eitherFirst f g).pending = s.pending := by
  unfold State.eitherFirst; try dsimp only
  (repeat' split) <;> simp

@[simp] theorem State.aroundFault_frame (s : State) (g : FaultMon → FaultMon) (op : State → State) :
    (s.aroundFault g op).now = (op s).now ∧ (s.aroundFault g op).pins = (op s).pins ∧ (s.aroundFault g op).cfg = (op s).cfg ∧ (s.aroundFault g op).su = (op s).su ∧
    (s.aroundFault g op).bi = (op s).bi ∧ (s.aroundFault g op).ti = (op s).ti ∧ (s.aroundFault g op).cs = (op s).cs ∧ (s.aroundFault g op).eb = (op s).eb ∧
    (s.aroundFault g op).ms = (op s).ms ∧ (s.aroundFault g op).cu = (op s).cu ∧ (s.aroundFault g op).en = (op s).en ∧ (s.aroundFault g op).pending = (op s).pending := by
  refine ⟨rfl, rfl, rfl, rfl, rfl, rfl, rfl, rfl, rfl, rfl, rfl, rfl⟩

@[simp] theorem State.syncRequest_frame (s : State) (old : Request) :
    (s.syncRequest old).now = s.now ∧ (s.syncRequest old).pins = s.pins ∧ (s.syncRequest old).cfg = s.cfg ∧
    (s.syncRequest old).su = s.su ∧ (s.syncRequest old).ti = s.ti ∧ (s.syncRequest old).cs = s.cs ∧ (s.syncRequest old).eb = s.eb ∧
    (s.syncRequest old).ms = s.ms ∧ (s.syncRequest old).cu = s.cu ∧ (s.syncRequest old).en = s.en ∧ (s.syncRequest old).fm = s.fm ∧
    (s.syncRequest old).free = s.free ∧ (s.syncRequest old).pending = s.pending := by
  unfold State.syncRequest; try dsimp only
  (repeat' split) <;> simp

@[simp] theorem State.build_frame (s : State) (c : Chan) (x : Int) :
    (s.build c x).now = s.now ∧ (s.build c x).pins = s.pins ∧ (s.build c x).cfg = s.cfg ∧ (s.build c x).su = s.su ∧
    (s.build c x).ti = s.ti ∧ (s.build c x).cs = s.cs ∧ (s.build c x).eb = s.eb ∧ (s.build c x).ms = s.ms ∧ (s.build c x).cu = s.cu ∧
    (s.build c x).en = s.en ∧ (s.build c x).fm = s.fm ∧ (s.build c x).free = s.free ∧ (s.build c x).pending = s.pending := by
  refine ⟨rfl, rfl, rfl, rfl, rfl, rfl, rfl, rfl, rfl, rfl, rfl, rfl, rfl⟩

@[simp] theorem State.rebuildLost_frame (s : State) (c : Chan) :
    (s.rebuildLost c).now = s.now ∧ (s.rebuildLost c).pins = s.pins ∧ (s.rebuildLost c).cfg = s.cfg ∧ (s.rebuildLost c).su = s.su ∧
    (s.rebuildLost c).ti = s.ti ∧ (s.rebuildLost c).cs = s.cs ∧ (s.rebuildLost c).eb = s.eb ∧ (s.rebuildLost c).ms = s.ms ∧
    (s.rebuildLost c).cu = s.cu ∧ (s.rebuildLost c).en = s.en ∧ (s.rebuildLost c).fm = s.fm ∧ (s.rebuildLost c).free = s.free ∧
    (s.rebuildLost c).pending = s.pending := by
  unfold State.rebuildLost; try dsimp only
  (repeat' split) <;> simp

@[simp] theorem State.formDeadline_frame (s : State) (c : Chan) :
    (s.formDeadline c).now = s.now ∧ (s.formDeadline c).pins = s.pins ∧ (s.formDeadline c).cfg = s.cfg ∧ (s.formDeadline c).su = s.su ∧
    (s.formDeadline c).bi = s.bi ∧ (s.formDeadline c).ti = s.ti ∧ (s.formDeadline c).cs = s.cs ∧ (s.formDeadline c).eb = s.eb ∧
    (s.formDeadline c).ms = s.ms ∧ (s.formDeadline c).en = s.en ∧ (s.formDeadline c).fm = s.fm ∧ (s.formDeadline c).free = s.free ∧
    (s.formDeadline c).pending = s.pending := by
  refine ⟨rfl, rfl, rfl, rfl, rfl, rfl, rfl, rfl, rfl, rfl, rfl, rfl, rfl⟩

@[simp] theorem State.expireOldest_frame (s : State) (c : Chan) :
    (s.expireOldest c).now = s.now ∧ (s.expireOldest c).pins = s.pins ∧ (s.expireOldest c).cfg = s.cfg ∧ (s.expireOldest c).su = s.su ∧
    (s.expireOldest c).ti = s.ti ∧ (s.expireOldest c).cs = s.cs ∧ (s.expireOldest c).eb = s.eb ∧ (s.expireOldest c).ms = s.ms ∧
    (s.expireOldest c).en = s.en ∧ (s.expireOldest c).free = s.free ∧ (s.expireOldest c).pending = s.pending := by
  unfold State.expireOldest; try dsimp only
  (repeat' split) <;> simp

@[simp] theorem State.settleDeadline_frame (n : Nat) (s : State) (c : Chan) :
    (State.settleDeadline n s c).now = s.now ∧ (State.settleDeadline n s c).pins = s.pins ∧ (State.settleDeadline n s c).cfg = s.cfg ∧
    (State.settleDeadline n s c).su = s.su ∧ (State.settleDeadline n s c).ti = s.ti ∧ (State.settleDeadline n s c).cs = s.cs ∧
    (State.settleDeadline n s c).eb = s.eb ∧ (State.settleDeadline n s c).ms = s.ms ∧ (State.settleDeadline n s c).en = s.en ∧
    (State.settleDeadline n s c).free = s.free ∧ (State.settleDeadline n s c).pending = s.pending := by
  induction n generalizing s with
  | zero => simp [State.settleDeadline]
  | succ n ih => unfold State.settleDeadline; dsimp only; split <;> simp [ih]

@[simp] theorem State.freshDeadline_frame (s : State) (c : Chan) :
    (s.freshDeadline c).now = s.now ∧ (s.freshDeadline c).pins = s.pins ∧ (s.freshDeadline c).cfg = s.cfg ∧
    (s.freshDeadline c).su = s.su ∧ (s.freshDeadline c).ti = s.ti ∧ (s.freshDeadline c).cs = s.cs ∧ (s.freshDeadline c).eb = s.eb ∧
    (s.freshDeadline c).ms = s.ms ∧ (s.freshDeadline c).en = s.en ∧ (s.freshDeadline c).free = s.free ∧
    (s.freshDeadline c).pending = s.pending := by
  simp [State.freshDeadline]

@[simp] theorem State.expireDeadline_frame (s : State) (c : Chan) :
    (s.expireDeadline c).now = s.now ∧ (s.expireDeadline c).pins = s.pins ∧ (s.expireDeadline c).cfg = s.cfg ∧
    (s.expireDeadline c).su = s.su ∧ (s.expireDeadline c).ti = s.ti ∧ (s.expireDeadline c).cs = s.cs ∧ (s.expireDeadline c).eb = s.eb ∧
    (s.expireDeadline c).ms = s.ms ∧ (s.expireDeadline c).en = s.en ∧ (s.expireDeadline c).free = s.free ∧
    (s.expireDeadline c).pending = s.pending := by
  simp [State.expireDeadline]

@[simp] theorem State.channelSent_frame (s : State) (c : Chan) (q : SeqNo) (x : Int) :
    (s.channelSent c q x).now = s.now ∧ (s.channelSent c q x).pins = s.pins ∧ (s.channelSent c q x).cfg = s.cfg ∧
    (s.channelSent c q x).su = s.su ∧ (s.channelSent c q x).ti = s.ti ∧ (s.channelSent c q x).cs = s.cs ∧
    (s.channelSent c q x).eb = s.eb ∧ (s.channelSent c q x).ms = s.ms ∧ (s.channelSent c q x).en = s.en ∧
    (s.channelSent c q x).free = s.free ∧ (s.channelSent c q x).pending = s.pending := by
  unfold State.channelSent; try dsimp only
  (repeat' split) <;> simp

@[simp] theorem State.handOverride_frame (s : State) (c : Chan) (st : EchoStatus) (a x : Int) :
    (s.handOverride c st a x).now = s.now ∧ (s.handOverride c st a x).pins = s.pins ∧ (s.handOverride c st a x).cfg = s.cfg ∧
    (s.handOverride c st a x).su = s.su ∧ (s.handOverride c st a x).bi = s.bi ∧ (s.handOverride c st a x).ti = s.ti ∧
    (s.handOverride c st a x).cs = s.cs ∧ (s.handOverride c st a x).ms = s.ms ∧ (s.handOverride c st a x).cu = s.cu ∧
    (s.handOverride c st a x).en = s.en ∧ (s.handOverride c st a x).fm = s.fm ∧ (s.handOverride c st a x).free = s.free ∧
    (s.handOverride c st a x).pending = s.pending := by
  unfold State.handOverride; try dsimp only
  (repeat' split) <;> simp

@[simp] theorem State.answerChannel_frame (s : State) (c : Chan) (st : EchoStatus) (l : List Sent) :
    (s.answerChannel c st l).now = s.now ∧ (s.answerChannel c st l).pins = s.pins ∧ (s.answerChannel c st l).cfg = s.cfg ∧
    (s.answerChannel c st l).su = s.su ∧ (s.answerChannel c st l).bi = s.bi ∧ (s.answerChannel c st l).ti = s.ti ∧
    (s.answerChannel c st l).cs = s.cs ∧ (s.answerChannel c st l).eb = s.eb ∧ (s.answerChannel c st l).ms = s.ms ∧
    (s.answerChannel c st l).en = s.en ∧ (s.answerChannel c st l).free = s.free ∧ (s.answerChannel c st l).pending = s.pending := by
  unfold State.answerChannel; try dsimp only
  (repeat' split) <;> simp

@[simp] theorem State.routeEcho_frame (s : State) (c : Chan) (e : EchoWord) (a : Int) :
    (s.routeEcho c e a).now = s.now ∧ (s.routeEcho c e a).pins = s.pins ∧ (s.routeEcho c e a).cfg = s.cfg ∧
    (s.routeEcho c e a).su = s.su ∧ (s.routeEcho c e a).ti = s.ti ∧ (s.routeEcho c e a).cs = s.cs ∧ (s.routeEcho c e a).ms = s.ms ∧
    (s.routeEcho c e a).en = s.en ∧ (s.routeEcho c e a).free = s.free ∧ (s.routeEcho c e a).pending = s.pending := by
  unfold State.routeEcho; try dsimp only
  (repeat' split) <;> simp

@[simp] theorem State.enterRunning_frame (s : State) :
    (s.enterRunning).now = s.now ∧ (s.enterRunning).pins = s.pins ∧ (s.enterRunning).cfg = s.cfg ∧ (s.enterRunning).su = s.su ∧
    (s.enterRunning).bi = s.bi ∧ (s.enterRunning).ti = s.ti ∧ (s.enterRunning).cs = s.cs ∧ (s.enterRunning).eb = s.eb ∧
    (s.enterRunning).ms = s.ms ∧ (s.enterRunning).cu = s.cu ∧ (s.enterRunning).free = s.free ∧ (s.enterRunning).pending = s.pending := by
  simp [State.enterRunning]

@[simp] theorem State.enterCranking_frame (s : State) :
    (s.enterCranking).now = s.now ∧ (s.enterCranking).pins = s.pins ∧ (s.enterCranking).cfg = s.cfg ∧ (s.enterCranking).su = s.su ∧
    (s.enterCranking).bi = s.bi ∧ (s.enterCranking).ti = s.ti ∧ (s.enterCranking).cs = s.cs ∧ (s.enterCranking).eb = s.eb ∧
    (s.enterCranking).ms = s.ms ∧ (s.enterCranking).cu = s.cu ∧ (s.enterCranking).fm = s.fm ∧ (s.enterCranking).free = s.free ∧
    (s.enterCranking).pending = s.pending := by
  refine ⟨rfl, rfl, rfl, rfl, rfl, rfl, rfl, rfl, rfl, rfl, rfl, rfl, rfl⟩

@[simp] theorem State.enterStopped_frame (s : State) :
    (s.enterStopped).now = s.now ∧ (s.enterStopped).pins = s.pins ∧ (s.enterStopped).cfg = s.cfg ∧ (s.enterStopped).su = s.su ∧
    (s.enterStopped).bi = s.bi ∧ (s.enterStopped).ti = s.ti ∧ (s.enterStopped).cs = s.cs ∧ (s.enterStopped).eb = s.eb ∧
    (s.enterStopped).ms = s.ms ∧ (s.enterStopped).cu = s.cu ∧ (s.enterStopped).fm = s.fm ∧ (s.enterStopped).free = s.free ∧
    (s.enterStopped).pending = s.pending := by
  refine ⟨rfl, rfl, rfl, rfl, rfl, rfl, rfl, rfl, rfl, rfl, rfl, rfl, rfl⟩

@[simp] theorem State.enterStopPending_frame (s : State) :
    (s.enterStopPending).now = s.now ∧ (s.enterStopPending).pins = s.pins ∧ (s.enterStopPending).cfg = s.cfg ∧
    (s.enterStopPending).su = s.su ∧ (s.enterStopPending).bi = s.bi ∧ (s.enterStopPending).ti = s.ti ∧ (s.enterStopPending).cs = s.cs ∧
    (s.enterStopPending).eb = s.eb ∧ (s.enterStopPending).ms = s.ms ∧ (s.enterStopPending).cu = s.cu ∧ (s.enterStopPending).fm = s.fm ∧
    (s.enterStopPending).free = s.free ∧ (s.enterStopPending).pending = s.pending := by
  refine ⟨rfl, rfl, rfl, rfl, rfl, rfl, rfl, rfl, rfl, rfl, rfl, rfl, rfl⟩

@[simp] theorem State.enterInhibited_frame (s : State) :
    (s.enterInhibited).now = s.now ∧ (s.enterInhibited).pins = s.pins ∧ (s.enterInhibited).cfg = s.cfg ∧ (s.enterInhibited).su = s.su ∧
    (s.enterInhibited).bi = s.bi ∧ (s.enterInhibited).ti = s.ti ∧ (s.enterInhibited).cs = s.cs ∧ (s.enterInhibited).eb = s.eb ∧
    (s.enterInhibited).ms = s.ms ∧ (s.enterInhibited).cu = s.cu ∧ (s.enterInhibited).free = s.free ∧
    (s.enterInhibited).pending = s.pending := by
  simp [State.enterInhibited]

@[simp] theorem State.countFailure_frame (s : State) :
    (s.countFailure).now = s.now ∧ (s.countFailure).pins = s.pins ∧ (s.countFailure).cfg = s.cfg ∧ (s.countFailure).su = s.su ∧
    (s.countFailure).bi = s.bi ∧ (s.countFailure).ti = s.ti ∧ (s.countFailure).cs = s.cs ∧ (s.countFailure).eb = s.eb ∧
    (s.countFailure).ms = s.ms ∧ (s.countFailure).cu = s.cu ∧ (s.countFailure).free = s.free ∧ (s.countFailure).pending = s.pending := by
  simp [State.countFailure]

@[simp] theorem State.lockOut_frame (s : State) :
    (s.lockOut).now = s.now ∧ (s.lockOut).pins = s.pins ∧ (s.lockOut).cfg = s.cfg ∧ (s.lockOut).su = s.su ∧ (s.lockOut).bi = s.bi ∧
    (s.lockOut).ti = s.ti ∧ (s.lockOut).cs = s.cs ∧ (s.lockOut).eb = s.eb ∧ (s.lockOut).ms = s.ms ∧ (s.lockOut).cu = s.cu ∧
    (s.lockOut).free = s.free ∧ (s.lockOut).pending = s.pending := by
  simp [State.lockOut]

@[simp] theorem State.stopAck_frame (s : State) :
    (s.stopAck).now = s.now ∧ (s.stopAck).pins = s.pins ∧ (s.stopAck).cfg = s.cfg ∧ (s.stopAck).su = s.su ∧ (s.stopAck).bi = s.bi ∧
    (s.stopAck).ti = s.ti ∧ (s.stopAck).cs = s.cs ∧ (s.stopAck).eb = s.eb ∧ (s.stopAck).ms = s.ms ∧ (s.stopAck).cu = s.cu ∧
    (s.stopAck).fm = s.fm ∧ (s.stopAck).free = s.free ∧ (s.stopAck).pending = s.pending := by
  refine ⟨rfl, rfl, rfl, rfl, rfl, rfl, rfl, rfl, rfl, rfl, rfl, rfl, rfl⟩

@[simp] theorem State.stopStart_frame (s : State) :
    (s.stopStart).now = s.now ∧ (s.stopStart).pins = s.pins ∧ (s.stopStart).cfg = s.cfg ∧ (s.stopStart).su = s.su ∧
    (s.stopStart).bi = s.bi ∧ (s.stopStart).ti = s.ti ∧ (s.stopStart).cs = s.cs ∧ (s.stopStart).eb = s.eb ∧ (s.stopStart).ms = s.ms ∧
    (s.stopStart).cu = s.cu ∧ (s.stopStart).fm = s.fm ∧ (s.stopStart).free = s.free ∧ (s.stopStart).pending = s.pending := by
  refine ⟨rfl, rfl, rfl, rfl, rfl, rfl, rfl, rfl, rfl, rfl, rfl, rfl, rfl⟩

@[simp] theorem State.stopStop_frame (s : State) :
    (s.stopStop).now = s.now ∧ (s.stopStop).pins = s.pins ∧ (s.stopStop).cfg = s.cfg ∧ (s.stopStop).su = s.su ∧ (s.stopStop).bi = s.bi ∧
    (s.stopStop).ti = s.ti ∧ (s.stopStop).cs = s.cs ∧ (s.stopStop).eb = s.eb ∧ (s.stopStop).ms = s.ms ∧ (s.stopStop).cu = s.cu ∧
    (s.stopStop).fm = s.fm ∧ (s.stopStop).free = s.free ∧ (s.stopStop).pending = s.pending := by
  refine ⟨rfl, rfl, rfl, rfl, rfl, rfl, rfl, rfl, rfl, rfl, rfl, rfl, rfl⟩

@[simp] theorem State.stopHold_frame (s : State) :
    (s.stopHold).now = s.now ∧ (s.stopHold).pins = s.pins ∧ (s.stopHold).cfg = s.cfg ∧ (s.stopHold).su = s.su ∧ (s.stopHold).bi = s.bi ∧
    (s.stopHold).ti = s.ti ∧ (s.stopHold).cs = s.cs ∧ (s.stopHold).eb = s.eb ∧ (s.stopHold).ms = s.ms ∧ (s.stopHold).cu = s.cu ∧
    (s.stopHold).fm = s.fm ∧ (s.stopHold).free = s.free ∧ (s.stopHold).pending = s.pending := by
  refine ⟨rfl, rfl, rfl, rfl, rfl, rfl, rfl, rfl, rfl, rfl, rfl, rfl, rfl⟩

@[simp] theorem State.failedStart_stopped_frame (s : State) :
    (s.failedStart State.enterStopped).now = s.now ∧ (s.failedStart State.enterStopped).pins = s.pins ∧
    (s.failedStart State.enterStopped).cfg = s.cfg ∧ (s.failedStart State.enterStopped).su = s.su ∧
    (s.failedStart State.enterStopped).bi = s.bi ∧ (s.failedStart State.enterStopped).ti = s.ti ∧
    (s.failedStart State.enterStopped).cs = s.cs ∧ (s.failedStart State.enterStopped).eb = s.eb ∧
    (s.failedStart State.enterStopped).ms = s.ms ∧ (s.failedStart State.enterStopped).cu = s.cu ∧
    (s.failedStart State.enterStopped).free = s.free ∧ (s.failedStart State.enterStopped).pending = s.pending := by
  unfold State.failedStart; dsimp only; split <;> simp

@[simp] theorem State.failedStart_stopPending_frame (s : State) :
    (s.failedStart State.enterStopPending).now = s.now ∧ (s.failedStart State.enterStopPending).pins = s.pins ∧
    (s.failedStart State.enterStopPending).cfg = s.cfg ∧ (s.failedStart State.enterStopPending).su = s.su ∧
    (s.failedStart State.enterStopPending).bi = s.bi ∧ (s.failedStart State.enterStopPending).ti = s.ti ∧
    (s.failedStart State.enterStopPending).cs = s.cs ∧ (s.failedStart State.enterStopPending).eb = s.eb ∧
    (s.failedStart State.enterStopPending).ms = s.ms ∧ (s.failedStart State.enterStopPending).cu = s.cu ∧
    (s.failedStart State.enterStopPending).free = s.free ∧ (s.failedStart State.enterStopPending).pending = s.pending := by
  unfold State.failedStart; dsimp only; split <;> simp

@[simp] theorem State.observe_frame (s : State) (e : EngineState) :
    (s.observe e).now = s.now ∧ (s.observe e).pins = s.pins ∧ (s.observe e).cfg = s.cfg ∧ (s.observe e).su = s.su ∧
    (s.observe e).bi = s.bi ∧ (s.observe e).ti = s.ti ∧ (s.observe e).cs = s.cs ∧ (s.observe e).eb = s.eb ∧ (s.observe e).ms = s.ms ∧
    (s.observe e).cu = s.cu ∧ (s.observe e).fm = s.fm ∧ (s.observe e).free = s.free ∧ (s.observe e).pending = s.pending := by
  refine ⟨rfl, rfl, rfl, rfl, rfl, rfl, rfl, rfl, rfl, rfl, rfl, rfl, rfl⟩

@[simp] theorem State.handStartPending_frame (s : State) (e : EngineState) :
    (s.handStartPending e).now = s.now ∧ (s.handStartPending e).pins = s.pins ∧ (s.handStartPending e).cfg = s.cfg ∧
    (s.handStartPending e).su = s.su ∧ (s.handStartPending e).bi = s.bi ∧ (s.handStartPending e).ti = s.ti ∧
    (s.handStartPending e).cs = s.cs ∧ (s.handStartPending e).eb = s.eb ∧ (s.handStartPending e).ms = s.ms ∧
    (s.handStartPending e).cu = s.cu ∧ (s.handStartPending e).free = s.free ∧ (s.handStartPending e).pending = s.pending := by
  unfold State.handStartPending; try dsimp only
  (repeat' split) <;> simp

@[simp] theorem State.handCranking_frame (s : State) (e : EngineState) :
    (s.handCranking e).now = s.now ∧ (s.handCranking e).pins = s.pins ∧ (s.handCranking e).cfg = s.cfg ∧ (s.handCranking e).su = s.su ∧
    (s.handCranking e).bi = s.bi ∧ (s.handCranking e).ti = s.ti ∧ (s.handCranking e).cs = s.cs ∧ (s.handCranking e).eb = s.eb ∧
    (s.handCranking e).ms = s.ms ∧ (s.handCranking e).cu = s.cu ∧ (s.handCranking e).free = s.free ∧
    (s.handCranking e).pending = s.pending := by
  cases e <;> simp [State.handCranking, State.failedStart] <;> split <;> simp

@[simp] theorem State.handStopPending_frame (s : State) (e : EngineState) :
    (s.handStopPending e).now = s.now ∧ (s.handStopPending e).pins = s.pins ∧ (s.handStopPending e).cfg = s.cfg ∧
    (s.handStopPending e).su = s.su ∧ (s.handStopPending e).bi = s.bi ∧ (s.handStopPending e).ti = s.ti ∧
    (s.handStopPending e).cs = s.cs ∧ (s.handStopPending e).eb = s.eb ∧ (s.handStopPending e).ms = s.ms ∧
    (s.handStopPending e).cu = s.cu ∧ (s.handStopPending e).free = s.free ∧ (s.handStopPending e).pending = s.pending := by
  unfold State.handStopPending; try dsimp only
  (repeat' split) <;> simp

@[simp] theorem State.takeEngine_frame (s : State) (e : EngineState) :
    (s.takeEngine e).now = s.now ∧ (s.takeEngine e).pins = s.pins ∧ (s.takeEngine e).cfg = s.cfg ∧ (s.takeEngine e).su = s.su ∧
    (s.takeEngine e).bi = s.bi ∧ (s.takeEngine e).ti = s.ti ∧ (s.takeEngine e).cs = s.cs ∧ (s.takeEngine e).eb = s.eb ∧
    (s.takeEngine e).ms = s.ms ∧ (s.takeEngine e).cu = s.cu ∧ (s.takeEngine e).free = s.free ∧ (s.takeEngine e).pending = s.pending := by
  unfold State.takeEngine; dsimp only; (repeat' split) <;> simp [State.followEngine] <;> split <;> simp

@[simp] theorem State.handEngine_frame (s : State) (e : EngineState) :
    (s.handEngine e).now = s.now ∧ (s.handEngine e).pins = s.pins ∧ (s.handEngine e).cfg = s.cfg ∧ (s.handEngine e).su = s.su ∧
    (s.handEngine e).bi = s.bi ∧ (s.handEngine e).ti = s.ti ∧ (s.handEngine e).cs = s.cs ∧ (s.handEngine e).eb = s.eb ∧
    (s.handEngine e).ms = s.ms ∧ (s.handEngine e).cu = s.cu ∧ (s.handEngine e).pending = s.pending := by
  unfold State.handEngine; (repeat' split) <;> simp

@[simp] theorem State.engineStale_frame (s : State) :
    (s.engineStale).now = s.now ∧ (s.engineStale).pins = s.pins ∧ (s.engineStale).cfg = s.cfg ∧ (s.engineStale).su = s.su ∧
    (s.engineStale).bi = s.bi ∧ (s.engineStale).ti = s.ti ∧ (s.engineStale).cs = s.cs ∧ (s.engineStale).eb = s.eb ∧
    (s.engineStale).ms = s.ms ∧ (s.engineStale).cu = s.cu ∧ (s.engineStale).free = s.free ∧ (s.engineStale).pending = s.pending := by
  unfold State.engineStale; try dsimp only
  (repeat' split) <;> simp

@[simp] theorem State.handOver_frame (s : State) (a b c : Bool) :
    (s.handOver a b c).now = s.now ∧ (s.handOver a b c).pins = s.pins ∧ (s.handOver a b c).cfg = s.cfg ∧ (s.handOver a b c).su = s.su ∧
    (s.handOver a b c).bi = s.bi ∧ (s.handOver a b c).ti = s.ti ∧ (s.handOver a b c).cs = s.cs ∧ (s.handOver a b c).eb = s.eb ∧
    (s.handOver a b c).ms = s.ms ∧ (s.handOver a b c).cu = s.cu ∧ (s.handOver a b c).fm = s.fm ∧ (s.handOver a b c).free = s.free ∧
    (s.handOver a b c).pending = s.pending := by
  unfold State.handOver; try dsimp only
  (repeat' split) <;> simp

@[simp] theorem State.endWithdrawal_frame (s : State) :
    (s.endWithdrawal).now = s.now ∧ (s.endWithdrawal).pins = s.pins ∧ (s.endWithdrawal).cfg = s.cfg ∧ (s.endWithdrawal).su = s.su ∧
    (s.endWithdrawal).bi = s.bi ∧ (s.endWithdrawal).ti = s.ti ∧ (s.endWithdrawal).cs = s.cs ∧ (s.endWithdrawal).eb = s.eb ∧
    (s.endWithdrawal).ms = s.ms ∧ (s.endWithdrawal).cu = s.cu ∧ (s.endWithdrawal).free = s.free ∧ (s.endWithdrawal).pending = s.pending := by
  unfold State.endWithdrawal; try dsimp only
  (repeat' split) <;> simp

@[simp] theorem State.engSent_frame (s : State) (r : Request) :
    (s.engSent r).now = s.now ∧ (s.engSent r).pins = s.pins ∧ (s.engSent r).cfg = s.cfg ∧ (s.engSent r).su = s.su ∧
    (s.engSent r).bi = s.bi ∧ (s.engSent r).ti = s.ti ∧ (s.engSent r).cs = s.cs ∧ (s.engSent r).eb = s.eb ∧ (s.engSent r).ms = s.ms ∧
    (s.engSent r).cu = s.cu ∧ (s.engSent r).free = s.free ∧ (s.engSent r).pending = s.pending := by
  unfold State.engSent; try dsimp only
  (repeat' split) <;> simp

@[simp] theorem State.cadence_frame (s : State) (t : Trigger) :
    (s.cadence t).now = s.now ∧ (s.cadence t).pins = s.pins ∧ (s.cadence t).cfg = s.cfg ∧ (s.cadence t).su = s.su ∧
    (s.cadence t).bi = s.bi ∧ (s.cadence t).ti = s.ti ∧ (s.cadence t).cs = s.cs ∧ (s.cadence t).eb = s.eb ∧ (s.cadence t).ms = s.ms ∧
    (s.cadence t).cu = s.cu ∧ (s.cadence t).en = s.en ∧ (s.cadence t).free = s.free ∧ (s.cadence t).pending = s.pending := by
  unfold State.cadence; try dsimp only
  (repeat' split) <;> simp

@[simp] theorem State.startComputation_frame (s : State) (t : Trigger) :
    (s.startComputation t).now = s.now ∧ (s.startComputation t).pins = s.pins ∧ (s.startComputation t).cfg = s.cfg ∧
    (s.startComputation t).su = s.su ∧ (s.startComputation t).bi = s.bi ∧ (s.startComputation t).ti = s.ti ∧
    (s.startComputation t).ms = s.ms ∧ (s.startComputation t).cu = s.cu ∧ (s.startComputation t).en = s.en ∧
    (s.startComputation t).free = s.free ∧ (s.startComputation t).pending = s.pending := by
  simp [State.startComputation]

@[simp] theorem State.startRequest_frame (s : State) (t : Trigger) :
    (s.startRequest t).now = s.now ∧ (s.startRequest t).pins = s.pins ∧ (s.startRequest t).cfg = s.cfg ∧ (s.startRequest t).su = s.su ∧
    (s.startRequest t).bi = s.bi ∧ (s.startRequest t).ti = s.ti ∧ (s.startRequest t).ms = s.ms ∧ (s.startRequest t).cu = s.cu ∧
    (s.startRequest t).en = s.en ∧ (s.startRequest t).free = s.free ∧ (s.startRequest t).pending = s.pending := by
  unfold State.startRequest; try dsimp only
  (repeat' split) <;> simp

@[simp] theorem State.demandAccepted_frame (s : State) (q : SeqNo) :
    (s.demandAccepted q).now = s.now ∧ (s.demandAccepted q).pins = s.pins ∧ (s.demandAccepted q).cfg = s.cfg ∧
    (s.demandAccepted q).su = s.su ∧ (s.demandAccepted q).bi = s.bi ∧ (s.demandAccepted q).ti = s.ti ∧ (s.demandAccepted q).ms = s.ms ∧
    (s.demandAccepted q).cu = s.cu ∧ (s.demandAccepted q).en = s.en ∧ (s.demandAccepted q).free = s.free ∧
    (s.demandAccepted q).pending = s.pending := by
  unfold State.demandAccepted; try dsimp only
  (repeat' split) <;> simp

@[simp] theorem State.releaseReport_frame (s : State) (p : Plan) :
    (s.releaseReport p).now = s.now ∧ (s.releaseReport p).pins = s.pins ∧ (s.releaseReport p).cfg = s.cfg ∧
    (s.releaseReport p).bi = s.bi ∧ (s.releaseReport p).ti = s.ti ∧ (s.releaseReport p).cs = s.cs ∧ (s.releaseReport p).eb = s.eb ∧
    (s.releaseReport p).ms = s.ms ∧ (s.releaseReport p).cu = s.cu ∧ (s.releaseReport p).en = s.en ∧ (s.releaseReport p).fm = s.fm ∧
    (s.releaseReport p).free = s.free ∧ (s.releaseReport p).pending = s.pending := by
  unfold State.releaseReport; try dsimp only
  (repeat' split) <;> simp

@[simp] theorem State.buildAll_frame (s : State) (m : ChanMode) (p : Plan) :
    (s.buildAll m p).now = s.now ∧ (s.buildAll m p).pins = s.pins ∧ (s.buildAll m p).cfg = s.cfg ∧ (s.buildAll m p).su = s.su ∧
    (s.buildAll m p).ti = s.ti ∧ (s.buildAll m p).cs = s.cs ∧ (s.buildAll m p).eb = s.eb ∧ (s.buildAll m p).ms = s.ms ∧
    (s.buildAll m p).cu = s.cu ∧ (s.buildAll m p).en = s.en ∧ (s.buildAll m p).fm = s.fm ∧ (s.buildAll m p).free = s.free ∧
    (s.buildAll m p).pending = s.pending := by
  simp only [State.buildAll, allChans, List.foldl]; (repeat' split) <;> simp

@[simp] theorem State.sendGrouped_frame (s : State) :
    (s.sendGrouped).now = s.now ∧ (s.sendGrouped).pins = s.pins ∧ (s.sendGrouped).cfg = s.cfg ∧ (s.sendGrouped).su = s.su ∧
    (s.sendGrouped).ti = s.ti ∧ (s.sendGrouped).cs = s.cs ∧ (s.sendGrouped).eb = s.eb ∧ (s.sendGrouped).ms = s.ms ∧
    (s.sendGrouped).cu = s.cu ∧ (s.sendGrouped).en = s.en ∧ (s.sendGrouped).fm = s.fm ∧ (s.sendGrouped).free = s.free ∧
    (s.sendGrouped).pending = s.pending := by
  unfold State.sendGrouped; try dsimp only
  (repeat' split) <;> simp

@[simp] theorem State.releaseEvent_frame (s : State) :
    (s.releaseEvent).now = s.now ∧ (s.releaseEvent).pins = s.pins ∧ (s.releaseEvent).cfg = s.cfg ∧ (s.releaseEvent).ti = s.ti ∧
    (s.releaseEvent).eb = s.eb ∧ (s.releaseEvent).ms = s.ms ∧ (s.releaseEvent).cu = s.cu ∧ (s.releaseEvent).en = s.en ∧
    (s.releaseEvent).fm = s.fm ∧ (s.releaseEvent).free = s.free ∧ (s.releaseEvent).pending = s.pending := by
  unfold State.releaseEvent; try dsimp only
  (repeat' split) <;> simp

@[simp] theorem State.updateConflicts_frame (s : State) (p : Plan) :
    (s.updateConflicts p).now = s.now ∧ (s.updateConflicts p).pins = s.pins ∧ (s.updateConflicts p).cfg = s.cfg ∧
    (s.updateConflicts p).su = s.su ∧ (s.updateConflicts p).bi = s.bi ∧ (s.updateConflicts p).ti = s.ti ∧
    (s.updateConflicts p).cs = s.cs ∧ (s.updateConflicts p).eb = s.eb ∧ (s.updateConflicts p).ms = s.ms ∧
    (s.updateConflicts p).cu = s.cu ∧ (s.updateConflicts p).en = s.en ∧ (s.updateConflicts p).pending = s.pending := by
  simp [State.updateConflicts]

@[simp] theorem State.commit_frame (s : State) (c : Computation) (p : Plan) :
    (s.commit c p).now = s.now ∧ (s.commit c p).pins = s.pins ∧ (s.commit c p).cfg = s.cfg ∧ (s.commit c p).su = s.su ∧
    (s.commit c p).ti = s.ti ∧ (s.commit c p).cs = s.cs ∧ (s.commit c p).eb = s.eb ∧ (s.commit c p).cu = s.cu ∧ (s.commit c p).fm = s.fm ∧
    (s.commit c p).free = s.free ∧ (s.commit c p).pending = s.pending := by
  simp [State.commit]

@[simp] theorem State.buildStatus_frame (s : State) (p : Plan) :
    (s.buildStatus p).now = s.now ∧ (s.buildStatus p).pins = s.pins ∧ (s.buildStatus p).cfg = s.cfg ∧ (s.buildStatus p).su = s.su ∧
    (s.buildStatus p).ti = s.ti ∧ (s.buildStatus p).cs = s.cs ∧ (s.buildStatus p).eb = s.eb ∧ (s.buildStatus p).ms = s.ms ∧
    (s.buildStatus p).cu = s.cu ∧ (s.buildStatus p).en = s.en ∧ (s.buildStatus p).free = s.free ∧ (s.buildStatus p).pending = s.pending := by
  refine ⟨rfl, rfl, rfl, rfl, rfl, rfl, rfl, rfl, rfl, rfl, rfl, rfl⟩

@[simp] theorem State.takePending_frame (s : State) :
    (s.takePending).now = s.now ∧ (s.takePending).pins = s.pins ∧ (s.takePending).cfg = s.cfg ∧ (s.takePending).su = s.su ∧
    (s.takePending).bi = s.bi ∧ (s.takePending).ti = s.ti ∧ (s.takePending).ms = s.ms ∧ (s.takePending).cu = s.cu ∧
    (s.takePending).en = s.en ∧ (s.takePending).free = s.free ∧ (s.takePending).pending = s.pending := by
  unfold State.takePending; try dsimp only
  (repeat' split) <;> simp

@[simp] theorem State.finishPlan_frame (s : State) (c : Computation) (p : Plan) :
    (s.finishPlan c p).now = s.now ∧ (s.finishPlan c p).pins = s.pins ∧ (s.finishPlan c p).cfg = s.cfg ∧ (s.finishPlan c p).su = s.su ∧
    (s.finishPlan c p).ti = s.ti ∧ (s.finishPlan c p).eb = s.eb ∧ (s.finishPlan c p).cu = s.cu ∧ (s.finishPlan c p).pending = s.pending := by
  simp [State.finishPlan]

@[simp] theorem State.takeShut_frame (s : State) :
    (s.takeShut).now = s.now ∧ (s.takeShut).pins = s.pins ∧ (s.takeShut).cfg = s.cfg ∧ (s.takeShut).su = s.su ∧ (s.takeShut).bi = s.bi ∧
    (s.takeShut).ti = s.ti ∧ (s.takeShut).cs = s.cs ∧ (s.takeShut).eb = s.eb ∧ (s.takeShut).ms = s.ms ∧ (s.takeShut).en = s.en ∧
    (s.takeShut).fm = s.fm ∧ (s.takeShut).free = s.free ∧ (s.takeShut).pending = s.pending := by
  refine ⟨rfl, rfl, rfl, rfl, rfl, rfl, rfl, rfl, rfl, rfl, rfl, rfl, rfl⟩

@[simp] theorem State.raiseConfigFaults_frame (s : State) :
    (s.raiseConfigFaults).now = s.now ∧ (s.raiseConfigFaults).pins = s.pins ∧ (s.raiseConfigFaults).cfg = s.cfg ∧
    (s.raiseConfigFaults).su = s.su ∧ (s.raiseConfigFaults).bi = s.bi ∧ (s.raiseConfigFaults).ti = s.ti ∧
    (s.raiseConfigFaults).cs = s.cs ∧ (s.raiseConfigFaults).eb = s.eb ∧ (s.raiseConfigFaults).ms = s.ms ∧
    (s.raiseConfigFaults).cu = s.cu ∧ (s.raiseConfigFaults).en = s.en ∧ (s.raiseConfigFaults).free = s.free ∧
    (s.raiseConfigFaults).pending = s.pending := by
  unfold State.raiseConfigFaults; try dsimp only
  (repeat' split) <;> simp

@[simp] theorem State.enterWindingDown_frame (s : State) :
    (s.enterWindingDown).now = s.now ∧ (s.enterWindingDown).pins = s.pins ∧ (s.enterWindingDown).cfg = s.cfg ∧
    (s.enterWindingDown).bi = s.bi ∧ (s.enterWindingDown).ti = s.ti ∧ (s.enterWindingDown).cs = s.cs ∧ (s.enterWindingDown).eb = s.eb ∧
    (s.enterWindingDown).ms = s.ms ∧ (s.enterWindingDown).cu = s.cu ∧ (s.enterWindingDown).en = s.en ∧ (s.enterWindingDown).fm = s.fm ∧
    (s.enterWindingDown).free = s.free ∧ (s.enterWindingDown).pending = s.pending := by
  refine ⟨rfl, rfl, rfl, rfl, rfl, rfl, rfl, rfl, rfl, rfl, rfl, rfl, rfl⟩

@[simp] theorem State.sampleRelease_frame (s : State) :
    (s.sampleRelease).now = s.now ∧ (s.sampleRelease).pins = s.pins ∧ (s.sampleRelease).cfg = s.cfg ∧ (s.sampleRelease).su = s.su ∧
    (s.sampleRelease).bi = s.bi ∧ (s.sampleRelease).ti = s.ti ∧ (s.sampleRelease).eb = s.eb ∧ (s.sampleRelease).ms = s.ms ∧
    (s.sampleRelease).cu = s.cu ∧ (s.sampleRelease).en = s.en ∧ (s.sampleRelease).fm = s.fm ∧ (s.sampleRelease).free = s.free ∧
    (s.sampleRelease).pending = s.pending := by
  unfold State.sampleRelease; try dsimp only
  (repeat' split) <;> simp

@[simp] theorem State.startCycleTimer_frame (s : State) :
    (s.startCycleTimer).now = s.now ∧ (s.startCycleTimer).pins = s.pins ∧ (s.startCycleTimer).cfg = s.cfg ∧
    (s.startCycleTimer).su = s.su ∧ (s.startCycleTimer).bi = s.bi ∧ (s.startCycleTimer).ti = s.ti ∧ (s.startCycleTimer).eb = s.eb ∧
    (s.startCycleTimer).ms = s.ms ∧ (s.startCycleTimer).cu = s.cu ∧ (s.startCycleTimer).en = s.en ∧ (s.startCycleTimer).fm = s.fm ∧
    (s.startCycleTimer).free = s.free ∧ (s.startCycleTimer).pending = s.pending := by
  refine ⟨rfl, rfl, rfl, rfl, rfl, rfl, rfl, rfl, rfl, rfl, rfl, rfl, rfl⟩

@[simp] theorem State.enterReady_frame (s : State) :
    (s.enterReady).now = s.now ∧ (s.enterReady).pins = s.pins ∧ (s.enterReady).cfg = s.cfg ∧ (s.enterReady).bi = s.bi ∧
    (s.enterReady).ti = s.ti ∧ (s.enterReady).eb = s.eb ∧ (s.enterReady).ms = s.ms ∧ (s.enterReady).en = s.en ∧
    (s.enterReady).free = s.free ∧ (s.enterReady).pending = s.pending := by
  unfold State.enterReady; try dsimp only
  (repeat' split) <;> simp

@[simp] theorem State.enterSleep_frame (s : State) :
    (s.enterSleep).now = s.now ∧ (s.enterSleep).pins = s.pins ∧ (s.enterSleep).cfg = s.cfg ∧ (s.enterSleep).eb = s.eb ∧
    (s.enterSleep).ms = s.ms ∧ (s.enterSleep).free = s.free ∧ (s.enterSleep).pending = s.pending := by
  refine ⟨rfl, rfl, rfl, rfl, rfl, rfl, rfl⟩

@[simp] theorem State.checkSleep_frame (s : State) :
    (s.checkSleep).now = s.now ∧ (s.checkSleep).pins = s.pins ∧ (s.checkSleep).cfg = s.cfg ∧ (s.checkSleep).eb = s.eb ∧
    (s.checkSleep).ms = s.ms ∧ (s.checkSleep).free = s.free ∧ (s.checkSleep).pending = s.pending := by
  unfold State.checkSleep; try dsimp only
  (repeat' split) <;> simp

@[simp] theorem State.afterPlan_frame (s : State) :
    (s.afterPlan).now = s.now ∧ (s.afterPlan).pins = s.pins ∧ (s.afterPlan).cfg = s.cfg ∧ (s.afterPlan).ms = s.ms ∧
    (s.afterPlan).free = s.free ∧ (s.afterPlan).pending = s.pending := by
  unfold State.afterPlan; try dsimp only
  (repeat' split) <;> simp

@[simp] theorem State.completeComputation_frame (s : State) (c : Computation) :
    (s.completeComputation c).now = s.now ∧ (s.completeComputation c).pins = s.pins ∧ (s.completeComputation c).cfg = s.cfg ∧
    (s.completeComputation c).pending = s.pending := by
  simp [State.completeComputation]

@[simp] theorem State.buildShut_frame (s : State) :
    (s.buildShut).now = s.now ∧ (s.buildShut).pins = s.pins ∧ (s.buildShut).cfg = s.cfg ∧ (s.buildShut).su = s.su ∧
    (s.buildShut).ti = s.ti ∧ (s.buildShut).cs = s.cs ∧ (s.buildShut).eb = s.eb ∧ (s.buildShut).ms = s.ms ∧ (s.buildShut).cu = s.cu ∧
    (s.buildShut).en = s.en ∧ (s.buildShut).fm = s.fm ∧ (s.buildShut).free = s.free ∧ (s.buildShut).pending = s.pending := by
  simp only [State.buildShut, allChans, List.foldl]
  by_cases h1 : s.cfg.shutEnable.eng = true <;> by_cases h2 : s.cfg.shutEnable.mga = true <;>
    by_cases h3 : s.cfg.shutEnable.mgb = true <;> by_cases h4 : s.cfg.shutEnable.fric = true <;> simp [PerChan.get, h1, h2, h3, h4]

@[simp] theorem State.rejectTelegram_frame (s : State) (f : TimedFault) (n : Nat) :
    (s.rejectTelegram f n).now = s.now ∧ (s.rejectTelegram f n).pins = s.pins ∧ (s.rejectTelegram f n).cfg = s.cfg ∧
    (s.rejectTelegram f n).su = s.su ∧ (s.rejectTelegram f n).bi = s.bi ∧ (s.rejectTelegram f n).cs = s.cs ∧
    (s.rejectTelegram f n).eb = s.eb ∧ (s.rejectTelegram f n).ms = s.ms ∧ (s.rejectTelegram f n).cu = s.cu ∧
    (s.rejectTelegram f n).en = s.en ∧ (s.rejectTelegram f n).free = s.free ∧ (s.rejectTelegram f n).pending = s.pending := by
  simp [State.rejectTelegram]

@[simp] theorem State.storeTelegram_frame (s : State) (k : Kind) (f : Frame) :
    (s.storeTelegram k f).now = s.now ∧ (s.storeTelegram k f).pins = s.pins ∧ (s.storeTelegram k f).cfg = s.cfg ∧
    (s.storeTelegram k f).su = s.su ∧ (s.storeTelegram k f).bi = s.bi ∧ (s.storeTelegram k f).cs = s.cs ∧
    (s.storeTelegram k f).eb = s.eb ∧ (s.storeTelegram k f).ms = s.ms ∧ (s.storeTelegram k f).cu = s.cu ∧
    (s.storeTelegram k f).en = s.en ∧ (s.storeTelegram k f).pending = s.pending := by
  simp [State.storeTelegram]

@[simp] theorem State.lookTelegram_frame (s : State) (k : Kind) (f : Frame) :
    (s.lookTelegram k f).now = s.now ∧ (s.lookTelegram k f).pins = s.pins ∧ (s.lookTelegram k f).cfg = s.cfg ∧
    (s.lookTelegram k f).su = s.su ∧ (s.lookTelegram k f).bi = s.bi ∧ (s.lookTelegram k f).cs = s.cs ∧ (s.lookTelegram k f).eb = s.eb ∧
    (s.lookTelegram k f).ms = s.ms ∧ (s.lookTelegram k f).cu = s.cu ∧ (s.lookTelegram k f).en = s.en ∧ (s.lookTelegram k f).fm = s.fm ∧
    (s.lookTelegram k f).free = s.free ∧ (s.lookTelegram k f).pending = s.pending := by
  unfold State.lookTelegram; try dsimp only
  (repeat' split) <;> simp

@[simp] theorem State.echoTelegram_frame (s : State) (e : Consumed) (f : Frame) :
    (s.echoTelegram e f).now = s.now ∧ (s.echoTelegram e f).pins = s.pins ∧ (s.echoTelegram e f).cfg = s.cfg ∧
    (s.echoTelegram e f).su = s.su ∧ (s.echoTelegram e f).ti = s.ti ∧ (s.echoTelegram e f).cs = s.cs ∧ (s.echoTelegram e f).ms = s.ms ∧
    (s.echoTelegram e f).en = s.en ∧ (s.echoTelegram e f).free = s.free ∧ (s.echoTelegram e f).pending = s.pending := by
  unfold State.echoTelegram; try dsimp only
  (repeat' split) <;> simp

@[simp] theorem State.handTelegram_frame (s : State) (k : Kind) (f : Frame) :
    (s.handTelegram k f).now = s.now ∧ (s.handTelegram k f).pins = s.pins ∧ (s.handTelegram k f).cfg = s.cfg ∧
    (s.handTelegram k f).su = s.su ∧ (s.handTelegram k f).bi = s.bi ∧ (s.handTelegram k f).ti = s.ti ∧ (s.handTelegram k f).cs = s.cs ∧
    (s.handTelegram k f).eb = s.eb ∧ (s.handTelegram k f).ms = s.ms ∧ (s.handTelegram k f).cu = s.cu ∧
    (s.handTelegram k f).pending = s.pending := by
  unfold State.handTelegram; try dsimp only
  (repeat' split) <;> simp

@[simp] theorem State.demandTelegram_frame (s : State) (k : Kind) (f : Frame) :
    (s.demandTelegram k f).now = s.now ∧ (s.demandTelegram k f).pins = s.pins ∧ (s.demandTelegram k f).cfg = s.cfg ∧
    (s.demandTelegram k f).su = s.su ∧ (s.demandTelegram k f).bi = s.bi ∧ (s.demandTelegram k f).ti = s.ti ∧
    (s.demandTelegram k f).ms = s.ms ∧ (s.demandTelegram k f).cu = s.cu ∧ (s.demandTelegram k f).en = s.en ∧
    (s.demandTelegram k f).free = s.free ∧ (s.demandTelegram k f).pending = s.pending := by
  unfold State.demandTelegram; try dsimp only
  (repeat' split) <;> simp

@[simp] theorem State.acceptTelegram_frame (s : State) (e : Consumed) (f : Frame) :
    (s.acceptTelegram e f).now = s.now ∧ (s.acceptTelegram e f).pins = s.pins ∧ (s.acceptTelegram e f).cfg = s.cfg ∧
    (s.acceptTelegram e f).su = s.su ∧ (s.acceptTelegram e f).ms = s.ms ∧ (s.acceptTelegram e f).pending = s.pending := by
  simp [State.acceptTelegram]

@[simp] theorem State.takeTelegram_frame (s : State) (f : Frame) :
    (s.takeTelegram f).now = s.now ∧ (s.takeTelegram f).pins = s.pins ∧ (s.takeTelegram f).cfg = s.cfg ∧ (s.takeTelegram f).su = s.su ∧
    (s.takeTelegram f).ms = s.ms ∧ (s.takeTelegram f).pending = s.pending := by
  unfold State.takeTelegram; try dsimp only
  (repeat' split) <;> simp

@[simp] theorem State.becomeHeld_frame (s : State) (k : Kind) :
    (s.becomeHeld k).now = s.now ∧ (s.becomeHeld k).pins = s.pins ∧ (s.becomeHeld k).cfg = s.cfg ∧ (s.becomeHeld k).su = s.su ∧
    (s.becomeHeld k).bi = s.bi ∧ (s.becomeHeld k).cs = s.cs ∧ (s.becomeHeld k).eb = s.eb ∧ (s.becomeHeld k).ms = s.ms ∧
    (s.becomeHeld k).cu = s.cu ∧ (s.becomeHeld k).en = s.en ∧ (s.becomeHeld k).fm = s.fm ∧ (s.becomeHeld k).free = s.free ∧
    (s.becomeHeld k).pending = s.pending := by
  unfold State.becomeHeld; try dsimp only
  (repeat' split) <;> simp

@[simp] theorem State.becomeStale_frame (s : State) (k : Kind) :
    (s.becomeStale k).now = s.now ∧ (s.becomeStale k).pins = s.pins ∧ (s.becomeStale k).cfg = s.cfg ∧ (s.becomeStale k).eb = s.eb ∧
    (s.becomeStale k).ms = s.ms ∧ (s.becomeStale k).pending = s.pending := by
  unfold State.becomeStale; try dsimp only
  (repeat' split) <;> simp

@[simp] theorem State.beginAttempt_frame (s : State) (t : Outgoing) :
    (s.beginAttempt t).now = s.now ∧ (s.beginAttempt t).pins = s.pins ∧ (s.beginAttempt t).cfg = s.cfg ∧ (s.beginAttempt t).su = s.su ∧
    (s.beginAttempt t).ti = s.ti ∧ (s.beginAttempt t).cs = s.cs ∧ (s.beginAttempt t).eb = s.eb ∧ (s.beginAttempt t).ms = s.ms ∧
    (s.beginAttempt t).cu = s.cu ∧ (s.beginAttempt t).en = s.en ∧ (s.beginAttempt t).fm = s.fm ∧ (s.beginAttempt t).free = s.free ∧
    (s.beginAttempt t).pending = s.pending := by
  refine ⟨rfl, rfl, rfl, rfl, rfl, rfl, rfl, rfl, rfl, rfl, rfl, rfl, rfl⟩

@[simp] theorem State.returnTelegram_frame (s : State) (t : Outgoing) :
    (s.returnTelegram t).now = s.now ∧ (s.returnTelegram t).pins = s.pins ∧ (s.returnTelegram t).cfg = s.cfg ∧
    (s.returnTelegram t).su = s.su ∧ (s.returnTelegram t).ti = s.ti ∧ (s.returnTelegram t).cs = s.cs ∧ (s.returnTelegram t).eb = s.eb ∧
    (s.returnTelegram t).ms = s.ms ∧ (s.returnTelegram t).cu = s.cu ∧ (s.returnTelegram t).en = s.en ∧ (s.returnTelegram t).fm = s.fm ∧
    (s.returnTelegram t).free = s.free ∧ (s.returnTelegram t).pending = s.pending := by
  unfold State.returnTelegram; try dsimp only
  (repeat' split) <;> simp

@[simp] theorem State.countError_frame (s : State) :
    (s.countError).now = s.now ∧ (s.countError).pins = s.pins ∧ (s.countError).cfg = s.cfg ∧ (s.countError).su = s.su ∧
    (s.countError).ti = s.ti ∧ (s.countError).cs = s.cs ∧ (s.countError).eb = s.eb ∧ (s.countError).ms = s.ms ∧ (s.countError).cu = s.cu ∧
    (s.countError).en = s.en ∧ (s.countError).free = s.free ∧ (s.countError).pending = s.pending := by
  unfold State.countError; try dsimp only
  (repeat' split) <;> simp

@[simp] theorem State.sendDone_frame (s : State) (a : Attempt) :
    (s.sendDone a).now = s.now ∧ (s.sendDone a).pins = s.pins ∧ (s.sendDone a).cfg = s.cfg ∧ (s.sendDone a).su = s.su ∧
    (s.sendDone a).ti = s.ti ∧ (s.sendDone a).cs = s.cs ∧ (s.sendDone a).eb = s.eb ∧ (s.sendDone a).ms = s.ms ∧ (s.sendDone a).cu = s.cu ∧
    (s.sendDone a).en = s.en ∧ (s.sendDone a).fm = s.fm ∧ (s.sendDone a).free = s.free ∧ (s.sendDone a).pending = s.pending := by
  refine ⟨rfl, rfl, rfl, rfl, rfl, rfl, rfl, rfl, rfl, rfl, rfl, rfl, rfl⟩

@[simp] theorem State.reportSend_frame (s : State) (a : Attempt) :
    (s.reportSend a).now = s.now ∧ (s.reportSend a).pins = s.pins ∧ (s.reportSend a).cfg = s.cfg ∧ (s.reportSend a).su = s.su ∧
    (s.reportSend a).ti = s.ti ∧ (s.reportSend a).cs = s.cs ∧ (s.reportSend a).eb = s.eb ∧ (s.reportSend a).ms = s.ms ∧
    (s.reportSend a).free = s.free ∧ (s.reportSend a).pending = s.pending := by
  unfold State.reportSend; try dsimp only
  (repeat' split) <;> simp

end Sys2Proof.Machine
end

