-- ==== Sys2Proof/Laws/Ops.lean ====
section
/-! SUPPORT. What the shared operations do, once each, for proofs to cite. -/

namespace Sys2Proof

/-! ### Tables by channel -/

@[simp] theorem PerChan.get_const {α : Type} (x : α) (c : Chan) : (PerChan.const x).get c = x := by cases c <;> rfl

@[simp] theorem PerChan.get_set_self {α : Type} (t : PerChan α) (c : Chan) (x : α) : (t.set c x).get c = x := by cases c <;> rfl

theorem PerChan.get_set_of_ne {α : Type} (t : PerChan α) {c d : Chan} (x : α) (h : d ≠ c) : (t.set c x).get d = t.get d := by
  cases c <;> cases d <;> first | rfl | exact absurd rfl h

theorem PerChan.get_set {α : Type} (t : PerChan α) (c d : Chan) (x : α) : (t.set c x).get d = if d = c then x else t.get d := by
  split
  · rename_i h; subst h; exact PerChan.get_set_self ..
  · rename_i h; exact PerChan.get_set_of_ne _ _ h

@[simp] theorem PerChan.set_set {α : Type} (t : PerChan α) (c : Chan) (x y : α) : (t.set c x).set c y = t.set c y := by cases c <;> rfl

@[simp] theorem PerChan.set_get {α : Type} (t : PerChan α) (c : Chan) : t.set c (t.get c) = t := by cases c <;> rfl

theorem PerChan.ext_get {α : Type} {t u : PerChan α} (h : ∀ c, t.get c = u.get c) : t = u := by
  cases t; cases u
  have h1 := h .eng; have h2 := h .mga; have h3 := h .mgb; have h4 := h .fric
  simp only [PerChan.get] at h1 h2 h3 h4
  subst h1 h2 h3 h4; rfl

namespace Machine

theorem everyChan_iff (P : Chan → Prop) : EveryChan P ↔ ∀ c, P c :=
  ⟨fun h c => by cases c; exacts [h.1, h.2.1, h.2.2.1, h.2.2.2], fun h => ⟨h _, h _, h _, h _⟩⟩

theorem everyKind_iff (P : Kind → Prop) : EveryKind P ↔ ∀ k, P k := by
  constructor
  · rintro ⟨h1, h2, h3, h4, h5, h6, h7, h8, h9⟩ k
    cases k <;> assumption
  · intro h; exact ⟨h _, h _, h _, h _, h _, h _, h _, h _, h _⟩

theorem timerDue_iff (t : Option Nat) (now : Nat) : timerDue t now = true ↔ ∃ d, t = some d ∧ d ≤ now := by
  cases t <;> simp [timerDue]

/-! ### Channels and telegrams -/

theorem State.withChan_get (s : State) (c d : Chan) (ch : Channel) :
    (s.withChan c ch).cu.get d = if d = c then ch else s.cu.get d := PerChan.get_set ..

theorem State.withWaiting_get (s : State) (c d : Chan) (sp : Option Setpoint) :
    (s.withWaiting c sp).bi.queue.get d = if d = c then sp else s.bi.queue.get d := PerChan.get_set ..

/-- A new waiting telegram changes the queue alone. -/
theorem State.withWaiting_bi (s : State) (c : Chan) (sp : Option Setpoint) :
    (s.withWaiting c sp).bi = { s.bi with queue := s.bi.queue.set c sp } := rfl

/-- R116: a build queues the telegram that the channel's state, the value offered and the request make now. -/
theorem State.build_eq (s : State) (c : Chan) (x : Int) : s.build c x = s.withWaiting c (some (s.builtFrom c x)) := by
  simp only [State.build, State.builtFrom, Channel.sendValue, Channel.poll, State.requestFor]
  congr 3
  cases (s.cu.get c).hs <;> rfl

/-- R116: builds read nothing that a build changes. -/
theorem State.builtFrom_build (s : State) (c d : Chan) (x y : Int) : (s.build c x).builtFrom d y = s.builtFrom d y := rfl

/-- R116: what a build leaves waiting. -/
theorem State.build_get (s : State) (c d : Chan) (x : Int) : (s.build c x).bi.queue.get d =
    if d = c then some (s.builtFrom c x) else s.bi.queue.get d := by rw [State.build_eq, State.withWaiting_get]

/-- R90, R91: what a round of builds leaves waiting. -/
theorem State.buildAll_get (s : State) (m : ChanMode) (p : Plan) (c : Chan) : (s.buildAll m p).bi.queue.get c =
    if s.cfg.chanMode.get c = m then some (s.builtFrom c (p.value c)) else s.bi.queue.get c := by
  simp only [State.buildAll, allChans, List.foldl_cons, List.foldl_nil]
  have hb : ∀ (t : State) (d : Chan) (x : Int), (t.build d x).cfg = t.cfg := fun _ _ _ => rfl
  split <;> split <;> split <;> split <;> simp only [hb] at * <;> cases c <;> simp [State.build_get, State.builtFrom_build, *]

/-- R90, R91: a round of builds changes the queue alone. -/
theorem State.buildAll_eq (s : State) (m : ChanMode) (p : Plan) :
    s.buildAll m p = s.withBi { s.bi with queue := (s.buildAll m p).bi.queue } := by
  simp only [State.buildAll, allChans, List.foldl_cons, List.foldl_nil]
  (repeat' split) <;> rfl

/-- R136, R117: after a request change the waiting ENG telegram carries the new request; nothing else moves. -/
theorem State.syncRequest_eng (s : State) (old : Request) (h : ∀ sp ∈ s.bi.queue.eng, sp.request = old) :
    ∀ sp ∈ (s.syncRequest old).bi.queue.eng, sp.request = s.request := by
  unfold State.syncRequest
  split
  · rename_i e; rw [e]; exact h
  · intro sp hs
    simp only [State.withWaiting, State.withBi, PerChan.set, Option.mem_def, Option.map_eq_some_iff] at hs
    obtain ⟨_, _, rfl⟩ := hs; rfl

theorem State.syncRequest_get_of_ne (s : State) (old : Request) {c : Chan} (h : c ≠ .eng) :
    (s.syncRequest old).bi.queue.get c = s.bi.queue.get c := by
  unfold State.syncRequest
  split
  · rfl
  · exact PerChan.get_set_of_ne _ _ h

/-- R136: the request supplied rests on the Negotiator's state and the confirmed zone alone. -/
theorem State.request_congr {s t : State} (h1 : t.en.state = s.en.state) (h2 : t.ti.zone = s.ti.zone) : t.request = s.request := by
  unfold State.request; rw [h1, h2]

/-- R136: START is supplied only in START_PENDING and outside a confirmed ZERO_EMISSION zone. -/
theorem State.request_start (s : State) : s.request = .start ↔ s.en.state = .startPending ∧ s.ti.zone.confirmed ≠ some .zeroEmission := by
  unfold State.request
  cases h : s.en.state <;> simp

/-- R117: at entry to LOST a waiting telegram is rebuilt with 0 and POLL. -/
theorem State.rebuildLost_get (s : State) (c d : Chan) : (s.rebuildLost c).bi.queue.get d =
    if d = c then (s.bi.queue.get c).map (fun _ => ⟨0, true, if c = .eng then s.request else .none⟩) else s.bi.queue.get d := by
  unfold State.rebuildLost
  split
  · rename_i h; split
    · rename_i e; subst e; simp [h]
    · rfl
  · rename_i h; rw [State.withWaiting_get]; split
    · simp [h, State.requestFor]
    · rfl

/-! ### The handshake -/

/-- R123: the entry an echo matches is the oldest of its number. -/
theorem matchEcho_iff (seq : SeqNo) (l : List Sent) (e : Sent) (rest : List Sent) :
    matchEcho seq l = some (e, rest) ↔ ∃ older, l = older ++ e :: rest ∧ e.seq = seq ∧ ∀ y ∈ older, y.seq ≠ seq := by
  induction l with
  | nil => simp [matchEcho]
  | cons x xs ih =>
    simp only [matchEcho]
    split
    · rename_i h
      constructor
      · rintro h'; cases h'; exact ⟨[], rfl, h, by simp⟩
      · rintro ⟨older, he, hs, ho⟩
        cases older with
        | nil => cases he; rfl
        | cons y ys => cases he; exact absurd h (ho x (by simp))
    · rename_i h
      rw [ih]
      constructor
      · rintro ⟨older, rfl, hs, ho⟩
        exact ⟨x :: older, rfl, hs, by simpa [h] using ho⟩
      · rintro ⟨older, he, hs, ho⟩
        cases older with
        | nil => cases he; exact absurd hs h
        | cons y ys => cases he; exact ⟨ys, rfl, hs, fun z hz => ho z (by simp [hz])⟩

/-- R123: no entry of the number, no match. -/
theorem matchEcho_none (seq : SeqNo) (l : List Sent) : matchEcho seq l = none ↔ ∀ x ∈ l, x.seq ≠ seq := by
  induction l with
  | nil => simp [matchEcho]
  | cons x xs ih => simp only [matchEcho]; split <;> simp_all

/-- R120: the deadline of a channel from its list. -/
theorem State.formDeadline_get (s : State) (c d : Chan) : (s.formDeadline c).cu.get d =
    if d = c then { s.cu.get c with deadline := (s.cu.get c).list.head?.map (fun e => e.time + s.cfg.echoTimeout) } else s.cu.get d :=
  PerChan.get_set ..

/-- R120: where the oldest entry is not due, a deadline formed afresh gives up nothing. -/
theorem State.freshDeadline_of_notYetDue (s : State) (c : Chan) (h : NotYetDue s (s.cu.get c).list) : s.freshDeadline c = s.formDeadline c := by
  unfold State.freshDeadline
  cases hl : (s.cu.get c).list with
  | nil => rfl
  | cons e es =>
    have hd : timerDue ((s.formDeadline c).cu.get c).deadline (s.formDeadline c).now = false := by
      have := h e (by simp [hl])
      simp [State.formDeadline_get, hl, timerDue, this]
    simp only [List.length_cons, State.settleDeadline, hd, Bool.false_eq_true, if_false]

/-- R121: what giving up the oldest entry does to the channel, outside IDLE. -/
theorem State.expireOldest_get (s : State) (c : Chan) (h : (s.cu.get c).hs ≠ .idle) : (s.expireOldest c).cu.get c =
    { s.cu.get c with
      list := (s.cu.get c).list.tail
      hs := if (s.cu.get c).hs = .lost ∨ s.cfg.nRetry ≤ (s.cu.get c).retry + 1 then .lost else .recovery
      retry := if (s.cu.get c).hs = .lost then (s.cu.get c).retry else (s.cu.get c).retry + 1
      readm := if (s.cu.get c).hs = .lost then 0 else (s.cu.get c).readm } := by
  unfold State.expireOldest
  generalize hc : s.cu.get c = ch at *
  obtain ⟨hs, sh, l, dl, rt, rd⟩ := ch
  cases hs
  case idle => exact absurd rfl h
  all_goals
    dsimp only
    split <;> simp_all [State.withChan, State.withCu]

theorem State.expireOldest_get_of_ne (s : State) {c d : Chan} (h : d ≠ c) : (s.expireOldest c).cu.get d = s.cu.get d := by
  unfold State.expireOldest
  dsimp only
  split <;> (try split) <;> simp [State.withChan, State.withCu, PerChan.get_set_of_ne _ _ h]

/-- R121: giving up the oldest entry shortens the list by one. -/
theorem State.expireOldest_list (s : State) (c : Chan) : ((s.expireOldest c).cu.get c).list = (s.cu.get c).list.tail := by
  by_cases h : (s.cu.get c).hs = .idle
  · simp [State.expireOldest, h, State.withChan_get]
  · rw [State.expireOldest_get s c h]

/-! ### The Scheduler and sleep -/

/-- R81: the three things a start request can do. -/
theorem State.startRequest_cases (s : State) (t : Trigger) :
    (s.working = false ∧ s.startRequest t = s) ∨
    (s.working = true ∧ s.cs.inflight = none ∧ s.startRequest t = s.startComputation t) ∨
    (s.working = true ∧ s.cs.inflight.isSome = true ∧ s.startRequest t = s.withCs { s.cs with
      pendingStart := some (match s.cs.pendingStart with | some p => mergeTrigger p t | none => t)
      overrun := s.cs.overrun || s.cs.pendingStart.isSome }) := by
  unfold State.startRequest
  cases hw : s.working
  · exact .inl ⟨rfl, by simp⟩
  · cases hi : s.cs.inflight with
    | none => exact .inr (.inl ⟨rfl, rfl, by simp⟩)
    | some c => cases hp : s.cs.pendingStart <;> exact .inr (.inr ⟨rfl, rfl, by simp⟩)

/-- R89: a release event swaps where it can, and sends in every case. -/
theorem State.releaseEvent_cases (s : State) :
    (∃ p, s.cs.back = .complete p ∧ s.cs.inflight = none ∧
      s.releaseEvent = ((s.withCs { s.cs with front := some p, back := .empty }).sendGrouped).releaseReport p) ∨
    ((s.cs.inflight.isSome = true ∨ ∀ p, s.cs.back ≠ .complete p) ∧ s.releaseEvent = s.sendGrouped) := by
  unfold State.releaseEvent
  cases hb : s.cs.back <;> cases hi : s.cs.inflight <;> simp

/-- R178: the sleep check either sleeps or does nothing. -/
theorem State.checkSleep_cases (s : State) :
    (s.su.part = .windingDown ∧ s.su.zeroRelease = true ∧ s.en.state.isStopped = true ∧ s.checkSleep = s.enterSleep) ∨
    (¬ (s.su.part = .windingDown ∧ s.su.zeroRelease = true ∧ s.en.state.isStopped = true) ∧ s.checkSleep = s) := by
  unfold State.checkSleep
  split
  · rename_i h; exact .inl ⟨h.1, h.2.1, h.2.2, rfl⟩
  · rename_i h; exact .inr ⟨h, rfl⟩

/-- R178: outside WINDING_DOWN the sleep check does nothing. -/
theorem State.checkSleep_of_ready (s : State) (h : s.su.part = .ready) : s.checkSleep = s := by simp [State.checkSleep, h]

/-- R142: a failed start counts, and goes on or locks out. -/
theorem State.failedStart_eq (s : State) (next : State → State) :
    s.failedStart next = if 3 ≤ s.en.failed + 1 then s.countFailure.lockOut else next s.countFailure := rfl

/-! ### Windows -/

/-- A window that is not empty holds what is clamped into it. -/
theorem Window.has_clamp (w : Window) (x : Int) (h : w.isEmpty = false) : w.has (w.clamp x) = true := by
  obtain ⟨lo, hi⟩ := w
  cases lo <;> cases hi <;> simp_all [Window.has, Window.clamp, Window.isEmpty]

/-- Two windows meet in what both hold. -/
theorem Window.has_meet (a b : Window) (x : Int) : (a.meet b).has x = (a.has x && b.has x) := by
  obtain ⟨al, ah⟩ := a; obtain ⟨bl, bh⟩ := b
  cases al <;> cases ah <;> cases bl <;> cases bh <;>
    simp [Window.has, Window.meet, maxLo, minHi, Bool.and_comm, Bool.and_left_comm, Bool.and_assoc]

/-- R66: a step's new value is the current value or a value of the allowed set. -/
theorem pickValue_has (d : Dir) (cur tgt : Int) (w : Window) : pickValue d cur tgt w = cur ∨ w.has (pickValue d cur tgt w) = true := by
  obtain ⟨lo, hi⟩ := w
  cases d <;> cases lo <;> cases hi <;>
    simp only [pickValue, Window.meet, Window.closed, maxLo, minHi, Window.isEmpty, Window.has, Option.getD_some, decide_eq_true_eq,
      Bool.and_eq_true, Bool.and_true, Bool.true_and] <;>
    (repeat' split) <;> first | exact .inl rfl | exact .inr trivial | exact .inr (by omega)

/-- R63: in the pinned run the window of ENG holds the pin alone. -/
theorem ownWindow_pinned {a : RunInput} {p : Int} (h : a.pin = some p) (x : Int) (hx : (ownWindow a .eng).has x = true) : x = p := by
  rw [ownWindow, h, Window.has_meet, Bool.and_eq_true] at hx
  have h2 := hx.2
  simp only [Window.has, Window.closed, Bool.and_eq_true, decide_eq_true_eq] at h2
  omega

/-- R56, R63, R72: in the pinned run, no step moves ENG from the pin. -/
theorem stepSource_pinned {a : RunInput} {p : Int} (h : a.pin = some p) (d : Dir) (r : Run) (x : Source) (hr : r.eng = p) :
    (stepSource a d r x).eng = p := by
  unfold stepSource
  split
  · exact hr
  · cases x
    · show pickValue d r.eng _ ((ownWindow a .eng).meet _) = p
      rcases pickValue_has d r.eng (target a r d .eng) ((ownWindow a .eng).meet ((powerRange a r .eng).meet (regenRange a r d .eng)))
        with e | e
      · rw [e, hr]
      · exact ownWindow_pinned h _ (by rw [Window.has_meet, Bool.and_eq_true] at e; exact e.1)
    · exact hr
    · exact hr

/-- R56, R72: the pinned run leaves ENG at the pin. -/
theorem allocate_pinned {a : RunInput} {p : Int} (h : a.pin = some p) : (allocate a).eng = p := by
  have hf : ∀ (d : Dir) (l : List Source) (r : Run), r.eng = p → (l.foldl (stepSource a d) r).eng = p := by
    intro d l
    induction l with
    | nil => exact fun r hr => hr
    | cons x l ih => exact fun r hr => ih _ (stepSource_pinned h d r x hr)
  have hb : (baseRun a).eng = p := by simp [baseRun, engBase, h]
  unfold allocate runPass
  split
  · exact hf _ _ _ hb
  · split
    · exact hf _ _ _ hb
    · exact hb

theorem clampInt_between (lo hi x : Int) (h : lo ≤ hi) : Between lo hi (clampInt lo hi x) := by
  unfold clampInt Between; split
  · omega
  · split <;> omega

theorem clampNat_between (lo hi x : Nat) (h : lo ≤ hi) : BetweenNat lo hi (clampNat lo hi x) := by
  unfold clampNat BetweenNat; split
  · omega
  · split <;> omega

end Machine

end Sys2Proof
end

