-- ==== Sys2Proof/Laws/Cycle.lean ====
section
/-! SUPPORT. What the operations of the cycle, of sleep and of an acceptance do, in the terms of the statements. -/

namespace Sys2Proof.Machine

theorem State.working_iff (s : State) : s.working = true ↔ AtWork s := by
  cases h : s.su.part <;> simp [State.working, AtWork, h]

/-! ### Sleep -/

theorem NegState.isStopped_iff (x : NegState) : x.isStopped = true ↔ x = .stopped ∨ x = .unknown ∨ x = .lockedOut := by
  cases x <;> simp [NegState.isStopped]

theorem sleepFaults_contains (f : FaultId) : sleepFaults.contains f = f.endsAtSleep := by
  have hk : ∀ k, k ∈ allKinds := by intro k; cases k <;> decide
  have hc : ∀ c, c ∈ allChans := by intro c; cases c <;> decide
  rw [Bool.eq_iff_iff, List.contains_iff_mem]
  cases f <;> simp [sleepFaults, FaultId.endsAtSleep, hk, hc]

/-- R179: the entry to SLEEP. -/
theorem State.enterSleep_asleep (s : State) : AsleepFrom s s.enterSleep := by
  obtain ⟨h1, h2, h3, h4⟩ := s.fm.removeAll sleepFaults
  simp only [sleepFaults_contains] at h1 h2
  exact ⟨⟨rfl, rfl, rfl, rfl, rfl⟩, ⟨rfl, rfl, rfl⟩, ⟨rfl, rfl, rfl⟩, ⟨rfl, rfl⟩, ⟨rfl, rfl, rfl, rfl, rfl, rfl, rfl, rfl, rfl⟩,
    ⟨rfl, rfl, rfl⟩, ⟨rfl, rfl⟩, ⟨rfl, rfl, rfl, rfl⟩, ⟨rfl, rfl⟩, ⟨rfl, rfl, rfl⟩, ⟨rfl, rfl, rfl, rfl⟩, rfl, ⟨h1, h2, h3⟩, h4,
    ⟨rfl, rfl, rfl, rfl, rfl, rfl, rfl⟩⟩

/-- R178: the sleep check. -/
theorem State.checkSleep_settles (u : State) : SettlesTo u u.checkSleep := by
  rcases u.checkSleep_cases with ⟨h1, h2, h3, h4⟩ | ⟨h, h4⟩
  · exact ⟨fun _ => h4 ▸ u.enterSleep_asleep, fun h => absurd ⟨h1, h2, (NegState.isStopped_iff _).1 h3⟩ h⟩
  · rw [NegState.isStopped_iff] at h
    exact ⟨fun h' => absurd h' h, fun _ => h4⟩

theorem State.checkSleep_of_noSleepDue {u : State} (h : NoSleepDue u) : u.checkSleep = u := u.checkSleep_settles.2 h

/-! ### Start -/

theorem Slot.judge_never {α : Type} {x : Slot α} (lim : Option Consumed) (now : Nat) (h : x.stamp = none) : (x.judge lim now).stamp = none := by
  cases x with
  | never => rfl
  | received => cases h

/-- R105: the freshness of a slot judged at a time. -/
theorem Slot.judge_stamp {α : Type} {x : Slot α} {lim : Option Consumed} (now : Nat) {b : Nat} {st : Freshness} {l : Consumed}
    (h : x.stamp = some (b, st)) (hl : lim = some l) : (x.judge lim now).stamp =
      some (b, if now - b ≤ l.fresh then .fresh else if now - b ≤ l.hold then .held else .stale) := by
  cases x with
  | never => cases h
  | received => cases h; subst hl; rfl

/-- R83: the snapshot. -/
theorem State.snapshot_of (s : State) : SnapshotOf s s.snapshot := by
  refine ⟨rfl, fun k h => ?_, fun k b st l h hl => ?_, ⟨rfl, rfl⟩, rfl, fun c => ?_, ⟨rfl, rfl, rfl⟩⟩
  · cases k <;> exact Slot.judge_never _ _ h
  · cases k <;> exact Slot.judge_stamp _ h hl
  · cases c <;> exact ⟨rfl, rfl⟩

/-- R82: the start of a computation. -/
theorem State.startComputation_starts (s : State) (t : Trigger) : StartsWith s (s.startComputation t) t s.newComputation (s.newPlan t) := by
  refine ⟨?_, s.snapshot_of, rfl, ⟨rfl, rfl⟩, ?_, rfl, ?_⟩
  · cases t <;> rfl
  · cases t <;> simp [State.newPlan]
  · simp only [State.newPlan]; cases s.cs.back <;> simp [BackPlan.isComplete]

/-- R85 step 6: a pending start. -/
theorem State.takePending_takes (s : State) : TakesPending s s.takePending := by
  unfold State.takePending
  constructor
  · intro h; rw [h]
  · intro tr h; rw [h]; exact ⟨_, _, State.startComputation_starts _ _⟩

/-! ### Completion -/

/-- R45, R138, R139, R145: the hand-over changes the Negotiator alone. -/
theorem State.handOver_eq (s : State) (a b c : Bool) : s.handOver a b c = s.withEn (s.en.handedOver s.now a b c) := by
  unfold State.handOver Neg.handedOver
  cases h : s.en.state <;> cases a <;> cases b <;> cases c <;> simp [State.withEn]
  all_goals rfl

/-- R171: the rotation. -/
theorem FaultMon.rotates (m : FaultMon) : Rotates m m.rotate.1 m.rotate.2 := by
  unfold FaultMon.rotate
  constructor
  · intro h; simp [h]
  · intro h
    have hl := List.length_pos_iff.2 h
    have hz : ¬ m.list.length = 0 := by omega
    simp only [if_neg hz]
    refine ⟨if m.rotation < m.list.length then m.rotation else 0, rfl, rfl, ?_, rfl⟩
    split <;> simp <;> omega

/-- R136, R117: a request change rebuilds the waiting ENG telegram and changes nothing else. -/
theorem State.syncRequest_eq (s : State) (old : Request) : s.syncRequest old = { s with bi := { s.bi with queue :=
    { s.bi.queue with eng := s.bi.queue.eng.map (fun sp => { sp with request := if s.request = old then sp.request else s.request }) } } } := by
  unfold State.syncRequest
  split
  · simp
  · simp [State.withWaiting, State.withBi, PerChan.set]

/-- R85 step 2: the commit. -/
theorem State.commit_eq (s : State) (c : Computation) (p : Plan) : s.commit c p =
    ((s.withMs (commitMode s.cfg c p)).withEn (s.en.handedOver s.now c.sel.startWanted c.sel.stopWanted
      (handbackComplete p (c.sel.blend.advance s.cfg.blendStep)))).syncRequest s.request := by
  unfold State.commit; dsimp only; rw [State.handOver_eq]; rfl

/-- R178: the report of a swap changes the zero-release mark alone. -/
theorem State.releaseReport_eq (s : State) (p : Plan) : s.releaseReport p = s.withSu (s.su.afterRelease p) := by
  unfold State.releaseReport Startup.afterRelease; split <;> rfl

/-- R85, steps 2 to 4, for a part `s1` that is `s` after step 1. -/
theorem State.reported_of {s s1 : State} {c : Computation} {p : Plan}
    (h1 : s1 = { s with cs := { s.cs with inflight := none, back := .complete p }, fm := s1.fm, free := s1.free })
    (hm : EitherOrder (conflictAfter .mga p.marks.mga s.now) (conflictAfter .mgb p.marks.mgb s.now) s.fm s1.fm) :
    Reported s c p (((s1.commit c p).buildAll .solo p).buildStatus p) := by
  obtain ⟨n, pn, cf, su, bi, ti, cs, eb, ms, cu, en, fm, fr, pd⟩ := s1
  simp only [State.mk.injEq] at h1
  obtain ⟨rfl, rfl, rfl, rfl, rfl, rfl, rfl, rfl, rfl, rfl, rfl, -, -, rfl⟩ := h1
  rw [State.commit_eq, State.syncRequest_eq]
  generalize hv : State.mk _ _ _ _ _ _ _ _ _ _ _ _ _ _ = v
  have hbe := State.buildAll_eq v .solo p
  have hbg := State.buildAll_get v .solo p
  have hcfg : v.cfg = s.cfg := by rw [← hv]; rfl
  simp only [hcfg] at hbg
  clear hcfg
  generalize v.buildAll .solo p = w at *
  subst hv
  refine ⟨?_, ?_, ?_, ?_, ?_, ?_, ?_, ?_⟩
  · show w.cs = _; rw [hbe]; rfl
  · show w.ms = _; rw [hbe]; rfl
  · show w.en = s.en.handedOver s.now w.ms.startWanted w.ms.stopWanted w.ms.handback; rw [hbe]; rfl
  · intro ch h
    show w.bi.queue.get ch = some (w.builtFrom ch _)
    rw [hbg, if_pos h, hbe]; rfl
  · intro ch h1 h2
    show w.bi.queue.get ch = _
    rw [hbg, if_neg (by rw [h2]; decide)]
    cases ch <;> first | rfl | exact absurd rfl h1
  · intro h
    show w.bi.queue.get .eng = s.bi.queue.eng.map (fun sp => { sp with request := if w.request = s.request then sp.request else w.request })
    rw [hbg, if_neg (by show ¬ s.cfg.chanMode.eng = _; rw [h]; decide)]; rw [hbe]; rfl
  · refine ⟨fm, w.statusOf p, hm, rfl, ⟨⟨rfl, rfl, rfl, rfl, rfl, rfl⟩, ⟨rfl, ?_⟩, ?_, ?_⟩, ?_, ?_⟩
    · show w.su.cause = _; rw [hbe]; rfl
    · show w.fm.list.length = _; rw [hbe]; rfl
    · show w.fm.overflow = _; rw [hbe]; rfl
    · show Rotates _ w.fm.rotate.1 w.fm.rotate.2; rw [hbe]; exact FaultMon.rotates _
    · show ({ w.fm with rotation := w.fm.rotate.2 } : FaultMon) = { fm with rotation := w.fm.rotate.2 }; rw [hbe]; rfl
  · rw [hbe]; rfl

/-- R85, steps 1 to 4. -/
theorem State.finishPlan_reported (s : State) (c : Computation) (p : Plan) : Reported s c p (s.finishPlan c p) :=
  State.reported_of (by rw [State.updateConflicts]; unfold State.eitherFirst; (repeat' split) <;> rfl)
    (State.eitherFirst_fm (s.withCs { s.cs with back := .complete p, inflight := none })
      (conflictUpdate .mga p.marks.mga s.now) (conflictUpdate .mgb p.marks.mgb s.now))

/-! ### Acceptance -/

/-- R157, R158: the telegram under way is the part's own where these are its bits. -/
theorem State.sends_iff (s : State) (bits : List Bool) : s.bi.sends bits = false ↔ NotOwn s bits := by
  unfold Bus.sends NotOwn; cases s.bi.tx <;> simp

/-- R158, R163, R165: what becomes of a good telegram of another station, by the part state. -/
theorem State.receive_good {s : State} {bits : List Bool} {f : Frame} (h : receiveFrame bits = some f) (hn : NotOwn s bits) :
    (AtWork s → s.receive bits = s.hearTelegram f) ∧ (s.su.part = .sleep → s.receive bits = s.watchTelegram f) := by
  have hb := (s.sends_iff bits).2 hn
  unfold State.receive; rw [h]; simp only [hb]
  exact ⟨fun hw => by rcases hw with hw | hw <;> rw [hw] <;> rfl, fun hw => by rw [hw]; rfl⟩

/-- R157, R158: the part does not receive its own telegram. -/
theorem State.receive_own {s : State} {a : Attempt} (h : s.bi.tx = some a) : s.receive a.bits = s := by
  have hb : s.bi.sends a.bits = true := by simp [Bus.sends, h]
  unfold State.receive; rw [hb]; split <;> rfl

/-- R97, R158, R159: an accepted telegram, and the sleep check after it. -/
theorem State.receive_accepted {s : State} {bits : List Bool} {f : Frame} {e : Consumed} (h : Accepted s bits f e) :
    s.receive bits = (s.acceptTelegram e f).checkSleep := by
  have h1 := (State.receive_good h.heard.good h.heard.notOwn).1 h.heard.working
  obtain ⟨en, hf, hc⟩ := Option.bind_eq_some_iff.1 h.topic
  rw [h1, State.hearTelegram, if_neg h.heard.other, State.takeTelegram, hf]
  simp only [hc]
  rw [if_neg (fun ⟨a, b⟩ => h.source.elim a b), if_neg (fun hl => hl h.length)]

end Sys2Proof.Machine
end

