-- ==== Sys2Proof/WellFormed.lean ====
section
/-! DEFINITION. Which commands can come from the part's surroundings: the checks on their operands. The machine is total on all commands; an ill-formed one is a command that no surroundings make. -/

namespace Sys2Proof

/-- The image read ends with all 62 words read, two bytes each (R174, R186); a read cut short ends as LOAD_TIMEOUT. -/
def ImageRead.wf : ImageRead → Bool
  | .noAck => true
  | .bytes bs => bs.length == 124

/-- Operand checks of a command: a telegram begins with a dominant start bit (R151, R153), and a fault removal names a topic number of 1 to 511 (R95). -/
def Instr.wf : Instr → Bool
  | .loadComplete r => r.wf
  | .telegramReceived bits => bits.head? == some false
  | .faultRemovalTime _ topic => decide (1 ≤ topic ∧ topic ≤ 511)
  | .powerOn => true
  | .resetAsserted => true
  | .resetReleased => true
  | .loadTimeout => true
  | .ignReleased => true
  | .ignAsserted => true
  | .windingDownTimeout => true
  | .shutdownAsserted => true
  | .shutdownReleased => true
  | .releaseEdge _ => true
  | .cycleTimerExpiry => true
  | .computationComplete => true
  | .attemptStart => true
  | .contentionLoss => true
  | .transmitError => true
  | .silentTimerExpiry => true
  | .completeSend => true
  | .echoDeadlineExpiry _ => true
  | .ackTimerExpiry => true
  | .startTimerExpiry => true
  | .stopTimerExpiry => true
  | .inhibitHoldExpiry => true
  | .slotHeld _ => true
  | .slotStale _ => true

end Sys2Proof
end

