-- ==== Sys2Proof/Laws/PerInstr.lean ====
section
/-! SUPPORT. One lemma for each command: which operands it can come with. -/

namespace Sys2Proof.Laws

/-- The commands that the part's surroundings can make: a whole image or none (R174, R186), a telegram from its start bit on (R151), a topic number of the bus (R95). -/
def FromSurroundings : Instr → Prop
  | .powerOn => True
  | .resetAsserted => True
  | .resetReleased => True
  | .loadComplete r => r = .noAck ∨ ∃ bs, r = .bytes bs ∧ bs.length = 2 * 62
  | .loadTimeout => True
  | .ignReleased => True
  | .ignAsserted => True
  | .windingDownTimeout => True
  | .shutdownAsserted => True
  | .shutdownReleased => True
  | .releaseEdge _ => True
  | .telegramReceived bits => ∃ rest, bits = false :: rest
  | .cycleTimerExpiry => True
  | .computationComplete => True
  | .attemptStart => True
  | .contentionLoss => True
  | .transmitError => True
  | .silentTimerExpiry => True
  | .completeSend => True
  | .echoDeadlineExpiry _ => True
  | .ackTimerExpiry => True
  | .startTimerExpiry => True
  | .stopTimerExpiry => True
  | .inhibitHoldExpiry => True
  | .slotHeld _ => True
  | .slotStale _ => True
  | .faultRemovalTime _ topic => topic ≠ 0 ∧ topic < 512

/-- A command is well formed exactly when the surroundings can make it. -/
def WellFormed.Statement (i : Instr) : Prop := i.wf = true ↔ FromSurroundings i

theorem WellFormed.powerOn : WellFormed.Statement .powerOn := iff_of_true rfl trivial

theorem WellFormed.resetAsserted : WellFormed.Statement .resetAsserted := iff_of_true rfl trivial

theorem WellFormed.resetReleased : WellFormed.Statement .resetReleased := iff_of_true rfl trivial

theorem WellFormed.loadComplete (r : ImageRead) : WellFormed.Statement (.loadComplete r) := by
  cases r <;> simp [WellFormed.Statement, FromSurroundings, Instr.wf, ImageRead.wf]

theorem WellFormed.loadTimeout : WellFormed.Statement .loadTimeout := iff_of_true rfl trivial

theorem WellFormed.ignReleased : WellFormed.Statement .ignReleased := iff_of_true rfl trivial

theorem WellFormed.ignAsserted : WellFormed.Statement .ignAsserted := iff_of_true rfl trivial

theorem WellFormed.windingDownTimeout : WellFormed.Statement .windingDownTimeout := iff_of_true rfl trivial

theorem WellFormed.shutdownAsserted : WellFormed.Statement .shutdownAsserted := iff_of_true rfl trivial

theorem WellFormed.shutdownReleased : WellFormed.Statement .shutdownReleased := iff_of_true rfl trivial

theorem WellFormed.releaseEdge (a : Bool) : WellFormed.Statement (.releaseEdge a) := iff_of_true rfl trivial

theorem WellFormed.telegramReceived (bits : List Bool) : WellFormed.Statement (.telegramReceived bits) := by
  cases bits <;> simp [WellFormed.Statement, FromSurroundings, Instr.wf]

theorem WellFormed.cycleTimerExpiry : WellFormed.Statement .cycleTimerExpiry := iff_of_true rfl trivial

theorem WellFormed.computationComplete : WellFormed.Statement .computationComplete := iff_of_true rfl trivial

theorem WellFormed.attemptStart : WellFormed.Statement .attemptStart := iff_of_true rfl trivial

theorem WellFormed.contentionLoss : WellFormed.Statement .contentionLoss := iff_of_true rfl trivial

theorem WellFormed.transmitError : WellFormed.Statement .transmitError := iff_of_true rfl trivial

theorem WellFormed.silentTimerExpiry : WellFormed.Statement .silentTimerExpiry := iff_of_true rfl trivial

theorem WellFormed.completeSend : WellFormed.Statement .completeSend := iff_of_true rfl trivial

theorem WellFormed.echoDeadlineExpiry (c : Chan) : WellFormed.Statement (.echoDeadlineExpiry c) := iff_of_true rfl trivial

theorem WellFormed.ackTimerExpiry : WellFormed.Statement .ackTimerExpiry := iff_of_true rfl trivial

theorem WellFormed.startTimerExpiry : WellFormed.Statement .startTimerExpiry := iff_of_true rfl trivial

theorem WellFormed.stopTimerExpiry : WellFormed.Statement .stopTimerExpiry := iff_of_true rfl trivial

theorem WellFormed.inhibitHoldExpiry : WellFormed.Statement .inhibitHoldExpiry := iff_of_true rfl trivial

theorem WellFormed.slotHeld (k : Kind) : WellFormed.Statement (.slotHeld k) := iff_of_true rfl trivial

theorem WellFormed.slotStale (k : Kind) : WellFormed.Statement (.slotStale k) := iff_of_true rfl trivial

theorem WellFormed.faultRemovalTime (f : TimedFault) (topic : Nat) : WellFormed.Statement (.faultRemovalTime f topic) := by
  simp only [WellFormed.Statement, FromSurroundings, Instr.wf, decide_eq_true_eq]; omega

end Sys2Proof.Laws
end

