-- ==== Sys2Proof/Tests/Slice0.lean ====
section
/-! SUPPORT. Tests of one step or one function each, with the expected values taken from the manual's worked cases and tables; and, for each statement that has hypotheses, states and operands that meet them. -/

namespace Sys2Proof.Tests

open Sys2Proof Sys2Proof.Machine

set_option maxRecDepth 8000

/-! ### Helpers -/

/-- The state a command leads to. -/
def after (i : Instr) (s : State) : State :=
  match exec i s with
  | .next t => t
  | .fault _ => s
  | .refused _ => s

/-- A working part under the default configuration, at time 1000, its table built. -/
def ready : State := { State.reset with
  now := 1000
  pins := ⟨true, false, false, false⟩
  su := ⟨.ready, .idle, .good, false, none, false, .powerOn⟩
  ti := .reset (buildTable defaultCfg).1
  cs := { Sched.reset false with timer := some 1025 } }

/-- The same with release source LINE. -/
def lineReady : State := { ready with cfg := { defaultCfg with releaseSource := .line } }

/-- The same part winding down. -/
def winding : State := { ready with
  pins := ⟨false, false, false, false⟩, su := ⟨.windingDown, .idle, .good, false, some 1000, false, .powerOn⟩ }

/-- The same part asleep. -/
def asleep : State := { ready with
  pins := ⟨false, false, false, false⟩, su := ⟨.sleep, .idle, .good, false, none, false, .powerOn⟩, cs := .reset false }

/-- The Negotiator in a state, its timers stopped. -/
def neg (x : NegState) : Neg := { Neg.reset with state := x }

/-- A telegram without POLL. -/
def frame (topic source : Nat) (seq : SeqNo) (ws : List Word) : Frame := ⟨topic, source, seq, 0, ws⟩

/-- An image's bytes, its sum word appended. -/
def image (ws : List Nat) : List Byte :=
  (ws ++ [ws.foldl (· + ·) 0 % 65536]).flatMap (fun w => [BitVec.ofNat 8 (w / 256), BitVec.ofNat 8 w])

/-- The length word and the 60 configuration words of the image map's defaults (R186). -/
def defaultWords : List Nat :=
  [60, 0x106, 40, 52, 60, 61, 62, 70, 80, 90, 96, 0x7fff, 0x7fff, 0x7fff, 100, 101, 102, 103, 112, 40] ++
  [30, 100, 50, 30, 30, 30, 50, 1000, 500, 60, 300, 150, 60, 60, 90, 150, 5000, 2000, 0, 0] ++
  [0x031e, 0x0419, 400, 700, 0x141c, 0x030c, 10, 250, 150, 120, 900, 920, 300, 150, 2000, 400, 600, 1500, 6500, 4500, 1500]

/-- The worked case of spec/12: word 1 holds 0x011F, word 40 holds 0x0A0F, word 29 holds 20. -/
def clampedWords : List Nat := ((defaultWords.set 1 0x011f).set 40 0x0a0f).set 29 20

/-! ### Operands, decoding, encoding -/

theorem test_short_image_ill_formed : Instr.wf (.loadComplete (.bytes (List.replicate 123 0))) = false := by decide
theorem test_whole_image_well_formed : Instr.wf (.loadComplete (.bytes (List.replicate 124 0))) = true := by decide
theorem test_recessive_start_ill_formed : Instr.wf (.telegramReceived [true, false]) = false := by decide
theorem test_no_bits_ill_formed : Instr.wf (.telegramReceived []) = false := by decide
theorem test_topic_0_ill_formed : Instr.wf (.faultRemovalTime .lengthError 0) = false := by decide
theorem test_topic_512_ill_formed : Instr.wf (.faultRemovalTime .lengthError 512) = false := by decide
theorem test_topic_511_well_formed : Instr.wf (.faultRemovalTime .sourceMismatch 511) = true := by decide
theorem test_no_word_spells_a_command : decodeTableWord 16 0 = none := rfl

/-- The check of the nine characters 1 to 9 under generator x^16 + x^12 + x^5 + 1 from all ones (R152); the value is the published one for it. -/
theorem test_crc : crc16 ("123456789".toList.flatMap (fun c => bitsOfNat 8 c.toNat)) = 0x29B1#16 := by decide

/-- R151: the first 23 bits of a telegram of topic 40, source 3, sequence 7, one word, written out. -/
theorem test_frame_head : (frame 40 3 7 [800]).bits.take 23 =
    [false, false, false, false, true, false, true, false, false, false, false, false, false, true, true, false, true, true, true,
     false, false, false, true] := by decide

/-- R151: four words make 115 bits. -/
theorem test_frame_length : (frame 52 9 0 [1, 2, 3, 0]).bits.length = 115 := by decide

theorem test_frame_received : receiveFrame (frame 40 3 7 [800]).bits = some (frame 40 3 7 [800]) := by decide
theorem test_flipped_bit_refused : receiveFrame ((frame 40 3 7 [800]).bits.set 40 true) = none := by decide
theorem test_source_31_refused : receiveFrame (frame 40 31 7 [800]).bits = none := by decide

/-- R185: words 0 to 2 of a STATUS telegram: plan 300, HYBRID, RUNNING, one fault, CONFIG_CLAMPED of word 1, after RESET. -/
theorem test_status_words : (StatusTelegram.payload ⟨.hybrid, .running, 300, PlanFlags.none, 0, -748, -400, 1, false,
    some ⟨.configClamped 1, 65537, 1⟩, .resetLine⟩) = [0x2C24, 0x0800, 0x6201, 0x0100, 0, 0xFD14, 0xFE70, 1] := by decide

/-! ### Worked cases of the formulas -/

/-- spec/01, R13 and R14: 960 Nm at 400 rpm draws 438, -150 Nm at 1920 rpm gives 272. -/
theorem test_elecPower : elecPower 960 400 920 = 438 ∧ elecPower (-150) 1920 900 = -272 ∧ elecPower 250 7000 700 = 2618 := by decide
/-- spec/01, R12: 1000 Nm at ratio 480. -/
theorem test_crankOf : crankOf 1000 480 = 208 ∧ axleOf 208 480 = 998 ∧ crankOf (-1000) 480 = -208 := by decide
/-- spec/01, R17's figure. -/
theorem test_torqueRange : torqueRange (-128) 600 400 920 = ⟨some (-332), some 1317⟩ := by decide
/-- spec/01, R10. -/
theorem test_demandPower : demandPower 2400 400 = 1005 ∧ demandPower (-1800) 400 = -753 ∧ demandPower 4500 1500 = 7068 := by decide

/-- The first worked case of spec/04. -/
def hybridRun : RunInput where
  mode := .hybrid
  weight := 20
  g := 480
  v := 400
  nc := 1920
  dc := 2400
  etaA := 900
  etaB := 920
  tg := 120
  eng := .closed 0 300
  mga := .closed (-150) 150
  mgb := .closed (-2000) 1800
  batt := .closed (-400) 600
  dis := 600
  chg := 400
  regen := 1200
  pin := none

theorem test_hybrid_propulsion : allocate hybridRun = ⟨300, 0, 960, false, false⟩ := by decide
theorem test_battery_limited : allocate { hybridRun with batt := .closed (-400) 250, dis := 250 } = ⟨300, 0, 549, true, false⟩ := by decide
theorem test_hybrid_braking : allocate { hybridRun with dc := -1800 } = ⟨0, -150, -332, true, false⟩ := by decide
theorem test_cruising_with_charge : allocate { hybridRun with dc := 600, weight := 28 } = ⟨262, -136, -5, false, false⟩ := by decide
theorem test_series_genset : allocate { hybridRun with mode := .series, g := 0, v := 300, nc := 1500, dc := 1000 } =
    ⟨120, -120, 1000, false, false⟩ := by decide
theorem test_series_low_charge : allocate { hybridRun with mode := .series, g := 0, v := 300, nc := 1500, dc := 1000, batt := .closed (-100) 600, chg := 100 } =
    ⟨70, -70, 1000, false, false⟩ := by decide
/-- The first and third plans of the blend of spec/04. -/
theorem test_blend_pins : Blend.pin ⟨true, 0, 8⟩ 300 (.closed 0 300) = 75 ∧
    allocate { hybridRun with pin := some 75 } = ⟨75, 0, 1317, true, false⟩ ∧
    (allocate { hybridRun with pin := some 225 }).residual { hybridRun with pin := some 225 } = 3 := by decide

/-- spec/02, an override that conflicts: MGB at [700, 700], its mark set. -/
theorem test_override_conflict : Layers.combine ⟨.unbounded, Window.raise ⟨some (-2500), none⟩ 700, .unbounded, .unbounded,
    .closed (-600) 600, .closed (-2000) 2000⟩ = (.closed 700 700, true) := by decide

/-- spec/06, a zone with a glitch: receptions 3 to 6. -/
theorem test_zone_glitch : (((TwoLook.look ⟨some Zone.unrestricted, none⟩ .lowEmission).look .zeroEmission).look .lowEmission).look .lowEmission =
    ⟨some .lowEmission, none⟩ := by decide

/-- spec/06, building the table: seven entries, GEARBOX and DERATE left out, the conflict mark set. -/
theorem test_table : (buildTable { defaultCfg with topic := ⟨40, 52, 60, 61, 62, 70, 112, 90, 52⟩ }).1.map (·.topic) = [40, 52, 60, 61, 62, 70, 90] ∧
    (buildTable { defaultCfg with topic := ⟨40, 52, 60, 61, 62, 70, 112, 90, 52⟩ }).2 = true := by decide

/-- R171: an index past the end is taken as 0, and the index goes round. -/
theorem test_rotation : FaultMon.rotate ⟨[⟨.startFailed, 1, 1⟩, ⟨.stopLate, 2, 1⟩], false, 1, []⟩ = (some ⟨.stopLate, 2, 1⟩, 0) ∧
    FaultMon.rotate ⟨[⟨.startFailed, 1, 1⟩], false, 3, []⟩ = (some ⟨.startFailed, 1, 1⟩, 0) := by decide

/-! ### Worked cases of the commands -/

theorem test_power_on_in_reset : (after .powerOn { ready with pins := ⟨true, false, false, true⟩ }).su.load = .held := by decide
theorem test_reset_forgets_plans : (after .resetAsserted { ready with cs := { ready.cs with front := some .blank, nextPlan := 7 } }).cs = .reset false := by decide
theorem test_reset_released_loads : (after .resetReleased (after .resetAsserted ready)).su.load = .reading 1000 := by decide

/-- spec/12, checking an image. -/
theorem test_image_clamped : let t := after (.loadComplete (.bytes (image clampedWords))) State.reset
    t.cfg.station = 30 ∧ t.cfg.bitRate = .k500 ∧ t.cfg.hold.demand = 30 ∧ t.cfg.echoTimeout = 15 ∧ t.cfg.nRetry = 7 ∧
    t.su.result = .clamped 1 ∧ t.fm.list = [⟨.configClamped 1, 0, 1⟩] ∧ t.faultLine = false := by decide
/-- R186: the image of the defaults puts the defaults in force. -/
theorem test_image_defaults : let t := after (.loadComplete (.bytes (image defaultWords))) State.reset
    t.cfg = defaultCfg ∧ t.su.result = .good ∧ t.su.part = .windingDown := by decide
theorem test_load_timeout : let t := after .loadTimeout { State.reset with now := 50 }
    t.su.result = .default ∧ t.fm.list = [⟨.configDefault, 50, 1⟩] ∧ t.faultLine = true := by decide

theorem test_ign_released : (after .ignReleased ready).su = ⟨.windingDown, .idle, .good, false, some 3000, false, .powerOn⟩ := by decide
theorem test_ign_wakes : (after .ignAsserted asleep).su.part = .ready ∧ (after .ignAsserted asleep).su.cause = .wake := by decide
theorem test_winding_timeout : (after .windingDownTimeout winding).su.part = .sleep ∧ (after .windingDownTimeout { winding with now := 999 }).su.part = .windingDown := by
  decide

/-- spec/07, SHUTDOWN during propulsion, step 1: ENG and MGA build 0, MGB and FRIC nothing. -/
theorem test_shutdown : let s := { ready with cfg := { defaultCfg with shutEnable := ⟨true, true, false, false⟩ } }
    (after .shutdownAsserted s).bi.queue = ⟨some ⟨0, false, .none⟩, some ⟨0, false, .none⟩, none, none⟩ ∧
    (after .shutdownReleased (after .shutdownAsserted s)).cu.eng.shut = false := by decide

/-- R88, R90: a rising edge sends the front plan again. -/
theorem test_release_edge : (after (.releaseEdge true) { lineReady with cs := { lineReady.cs with front := some { Plan.blank with mgb := 900 } } }).bi.queue.mgb =
    some ⟨900, false, .none⟩ := by decide
theorem test_falling_edge_not_selected : (after (.releaseEdge false) { lineReady with cs := { lineReady.cs with front := some .blank, lastRelease := true } }).bi.queue.mgb =
    none := by decide

theorem test_demand_arrival : let t := after (.telegramReceived (frame 40 3 7 [800]).bits) ready
    t.cs.lastSeq = some 7 ∧ t.cs.nextPlan = 1 ∧ t.cs.inflight.isSome = true ∧ t.ti.slots.demand = .received 1000 .fresh 800 := by decide
/-- spec/06, one slot through a silence: three words on topic 70, removal 1000 ms later. -/
theorem test_length_error : let t := after (.telegramReceived (frame 70 17 0 [1, 2, 3]).bits) ready
    t.ti.removals = [⟨.lengthError, 70, 2000⟩] ∧ t.fm.list = [⟨.lengthError 70, 1000, 1⟩] := by decide

theorem test_cycle_timer : let t := after .cycleTimerExpiry { ready with now := 1025 }
    t.cs.timer = some 1050 ∧ t.cs.inflight.isSome = true ∧ t.faultLine = true := by decide
/-- R85: with nothing received the plan is SAFE with every command 0, released at once. -/
theorem test_completion : let t := after .computationComplete (after .cycleTimerExpiry { ready with now := 1025 })
    t.ms.mode = .safe ∧ t.cs.back = .empty ∧ t.bi.queue.mgb = some ⟨0, false, .none⟩ ∧ t.bi.statusQ.isSome = true := by decide

/-- R178: a zero plan released in WINDING_DOWN, the Negotiator UNKNOWN, leads to SLEEP, its STATUS with it. -/
theorem test_winding_completion_sleeps : let t := after .computationComplete (after .cycleTimerExpiry { winding with now := 1025 })
    t.su.part = .sleep ∧ t.bi.statusQ = none ∧ t.cs.front = none := by decide

/-- A part with telegrams of every kind waiting but MGA's. -/
def loaded : State := { ready with bi := { ready.bi with
  queue := ⟨some ⟨250, false, .none⟩, none, some ⟨900, false, .none⟩, some ⟨-5, false, .none⟩⟩
  statusQ := some ⟨.safe, .unknown, 0, PlanFlags.none, 0, 0, 0, 0, false, none, .powerOn⟩ } }

theorem test_attempt_takes_eng : (after .attemptStart loaded).bi.tx.map (·.telegram) = some (.setpoint .eng ⟨250, false, .none⟩) := by decide
theorem test_contention_loss_returns : (after .contentionLoss (after .attemptStart loaded)).bi = loaded.bi := by decide
/-- spec/09: the sixteenth error in a row. -/
theorem test_sixteenth_error : let s := after .attemptStart loaded
    (after .transmitError { s with bi := { s.bi with errors := 15 } }).bi.link = .silent ∧
    (after .transmitError { s with bi := { s.bi with errors := 15 } }).bi.silentTimer = some 1050 := by decide
theorem test_silent_timer : (after .silentTimerExpiry { ready with bi := { ready.bi with link := .silent, errors := 16, silentTimer := some 1000 } }).bi = ready.bi := by
  decide

/-- A START on the bus, ZERO_EMISSION heard once. -/
def starting : State := after .attemptStart { ready with
  en := { neg .startPending with ack := some 1100 }
  ti := { ready.ti with zone := ⟨none, some .zeroEmission⟩ }
  bi := { ready.bi with queue := ⟨some ⟨0, false, .start⟩, none, none, none⟩ } }

/-- R136: the zone is confirmed while the attempt is under way; the telegram goes out as it was built, and one that fails comes back with NONE (zone telegram: topic 90, code 2). -/
theorem test_zone_confirmed_during_attempt : let t := after (.telegramReceived (frame 90 9 0 [2]).bits) starting
    starting.bi.tx.map (·.telegram) = some (.setpoint .eng ⟨0, false, .start⟩) ∧
    t.ti.zone.confirmed = some .zeroEmission ∧ t.bi.tx = starting.bi.tx ∧
    (after .contentionLoss t).bi.queue.eng = some ⟨0, false, .none⟩ := by decide

/-- spec/07, overflow from a slow echo, at 20: the fifth send gives up the oldest. -/
def slowEcho : State := { ready with
  now := 20
  bi := { ready.bi with seqs := ⟨0, 0, 0, 4⟩, tx := some ⟨.setpoint .fric ⟨0, false, .none⟩, 4, []⟩ }
  cu := ready.cu.set .fric ⟨.active, false, [⟨0, 0, 0⟩, ⟨1, 0, 5⟩, ⟨2, 0, 10⟩, ⟨3, 0, 15⟩], some 30, 0, 0⟩ }

theorem test_slow_echo : (after .completeSend slowEcho).cu.fric =
    ⟨.recovery, false, [⟨1, 0, 5⟩, ⟨2, 0, 10⟩, ⟨3, 0, 15⟩, ⟨4, 0, 20⟩], some 35, 1, 0⟩ := by decide
/-- The echo of 3 at 22 answers 1, 2 and 3 (brake controller, topic 70, word 3 is the echo word). -/
theorem test_slow_echo_answered : (after (.telegramReceived (frame 70 17 0 [0, 0, 0, 0x3000]).bits) { after .completeSend slowEcho with now := 22 }).cu.fric =
    ⟨.active, false, [⟨4, 0, 20⟩], some 50, 0, 0⟩ := by decide

/-- spec/07, a traction motor inverter goes silent, at 66: LOST. -/
def silentMotor : State := { ready with
  now := 66
  cu := ready.cu.set .mgb ⟨.recovery, false, [⟨8, 930, 36⟩, ⟨9, 930, 48⟩, ⟨10, 930, 60⟩], some 66, 2, 0⟩
  fm := ⟨[⟨.channelRecovery .mgb, 42, 2⟩], false, 0, []⟩ }

theorem test_silent_motor_lost : (after (.echoDeadlineExpiry .mgb) silentMotor).cu.mgb = ⟨.lost, false, [⟨9, 930, 48⟩, ⟨10, 930, 60⟩], some 78, 3, 0⟩ := by decide
theorem test_silent_motor_faults : (after (.echoDeadlineExpiry .mgb) silentMotor).fm = ⟨[⟨.channelLost .mgb, 66, 1⟩], false, 0, [.channelLost .mgb]⟩ := by decide

/-- spec/08, three failed starts: the third locks out. -/
def startPending (failed : Nat) : State := { ready with en := { neg .startPending with failed := failed, ack := some 1000 } }
def cranking (failed : Nat) : State := { ready with en := { neg .cranking with failed := failed, start := some 1000 } }

theorem test_third_failure : (after .ackTimerExpiry (startPending 2)).en = ⟨.lockedOut, none, 0, 3, none, none, none, none⟩ := by decide
theorem test_first_failure : (after .ackTimerExpiry (startPending 0)).en = ⟨.stopped, none, 0, 1, none, none, none, none⟩ := by decide
theorem test_crank_timeout : (after .startTimerExpiry (cranking 0)).en = ⟨.stopPending, none, 0, 1, none, none, some 4000, none⟩ := by decide
/-- R178: the third failed start, in WINDING_DOWN with the mark set, leads to SLEEP. -/
theorem test_third_crank_failure_sleeps : let t := after .startTimerExpiry { cranking 2 with su := { winding.su with zeroRelease := true } }
    t.su.part = .sleep ∧ t.en.state = .lockedOut ∧ t.fm.degrading = [.engineLockedOut] := by decide
theorem test_stop_late : (after .stopTimerExpiry { ready with en := { neg .stopPending with stop := some 1000 } }).fm.list = [⟨.stopLate, 1000, 1⟩] := by decide
theorem test_inhibit_hold : (after .inhibitHoldExpiry { ready with en := { neg .inhibited with hold := some 1000 } }).en = neg .stopped := by decide

/-- spec/06, one slot through a silence: held at age 31, stale at age 91. -/
def heardBrake (now : Nat) (st : Freshness) : State := { ready with
  now := now, ti := { ready.ti with slots := { Slots.reset with brake := .received 20 st ⟨none, 1500, 0, ⟨0, .applied⟩⟩ } } }

theorem test_slot_held : (after (.slotHeld .brake) (heardBrake 51 .fresh)).ti.slots.stamp .brake = some (20, .held) ∧
    (after (.slotHeld .brake) (heardBrake 50 .fresh)).ti.slots.stamp .brake = some (20, .fresh) := by decide
theorem test_slot_stale : (after (.slotStale .brake) (heardBrake 111 .held)).ti.slots.stamp .brake = some (20, .stale) ∧
    (after (.slotStale .brake) (heardBrake 111 .held)).faultLine = false := by decide
theorem test_fault_removal : (after (.faultRemovalTime .lengthError 70)
    { ready with now := 1035, ti := { ready.ti with removals := [⟨.lengthError, 70, 1035⟩] }, fm := ⟨[⟨.lengthError 70, 35, 1⟩], false, 0, []⟩ }).fm = .reset := by
  decide

/-- Log entry 2: an idle step is a millisecond, and the timer that then runs out joins the queue. -/
theorem test_idle_step : step { ready with now := 1024 } = .next { ready with now := 1025, pending := [.cycleTimerExpiry] } := by rfl

/-! ### Witnesses: states and operands that meet the hypotheses of the statements -/

theorem witness_StepRunsFrontCommand : (ready.withPending [.powerOn, .loadTimeout]).pending = .powerOn :: [.loadTimeout] := rfl
theorem witness_IdleStepPassesOneMillisecond : ready.pending = [] ∧ Block.su ≠ .now ∧ Block.su ≠ .free ∧ Block.su ≠ .pending := by decide
theorem witness_CommandsCompleteAndKeepTheRest : Block.en ∉ mayChange .attemptStart := by decide

theorem witness_GoodImageTakesForce : State.reset.su.part = .loading ∧ State.reset.su.load = .reading 0 ∧ (State.reset.withNow 50).now ≤ 0 + 50 ∧
    imageGood (wordsOfBytes (image defaultWords)) = true ∧ imageGood (wordsOfBytes (image clampedWords)) = true ∧
    firstClamped (wordsOfBytes (image clampedWords)) = some 1 ∧ firstClamped (wordsOfBytes (image defaultWords)) = none := by decide
theorem witness_FailedLoadTakesDefaults : State.reset.su.part = .loading ∧ State.reset.su.load = .reading 0 ∧
    imageGood (wordsOfBytes (image (defaultWords.set 0 61))) = false ∧ imageGood (wordsOfBytes ((image defaultWords).take 122)) = false ∧
    imageGood (wordsOfBytes ((image defaultWords).set 5 0)) = false ∧ 0 + 50 < (State.reset.withNow 51).now ∧
    0 + 50 ≤ (State.reset.withNow 50).now := by decide
theorem witness_IgnitionMovesThePart : ready.su.part ≠ .sleep ∧ winding.su.part ≠ .sleep ∧ asleep.su.part = .sleep := by decide
theorem witness_WakeTopicWakes : asleep.su.part = .sleep ∧ NotOwn asleep (frame 40 6 0 []).bits ∧
    receiveFrame (frame 40 6 0 []).bits = some (frame 40 6 0 []) ∧ asleep.ti.table.any (fun e => e.wake && e.topic == 40) = true ∧
    receiveFrame (frame 52 6 0 []).bits = some (frame 52 6 0 []) ∧ asleep.ti.table.any (fun e => e.wake && e.topic == 52) = false ∧
    receiveFrame [] = none := by decide
theorem witness_WindingDownTimeoutSleeps : winding.su.part = .windingDown ∧ winding.su.windTimer = some 1000 ∧ 1000 ≤ winding.now := by decide

/-- Winding down with a zero plan ready for a strobe. -/
def zeroPlan (x : NegState) : State := { winding with
  cfg := lineReady.cfg, cs := { winding.cs with back := .complete .blank }, en := neg x }

theorem witness_ZeroReleaseEndsWindingDown (x : NegState) : (zeroPlan x).su.part = .windingDown ∧ (zeroPlan x).cfg.releaseSource = .line ∧
    (zeroPlan x).cs.lastRelease ≠ true ∧ SelectedEdge (zeroPlan x).cfg.releaseEdge true ∧ (zeroPlan x).cs.back = .complete .blank ∧
    (zeroPlan x).cs.inflight = none ∧ Plan.blank.eng = 0 ∧ Plan.blank.mga = 0 ∧ Plan.blank.mgb = 0 ∧ (zeroPlan x).en.state = x := by
  refine ⟨rfl, rfl, ?_, ?_, rfl, rfl, rfl, rfl, rfl, rfl⟩
  · show false ≠ true; decide
  · show SelectedEdge .rising true; decide

theorem witness_ShutdownAssertedQueuesZero : (ready.su.part = .ready ∧ ShutOk ready) ∧ (winding.su.part = .windingDown ∧ ShutOk winding) ∧
    ShutOk { ready with cfg := { defaultCfg with shutEnable := ⟨true, false, true, false⟩ } } := by decide
theorem witness_ShutdownReleasedBuildsNothing : ready.su.part ≠ .loading ∧ State.reset.su.part = .loading ∧ asleep.su.part = .sleep := by decide

/-- A strobed part with a COMPLETE back plan. -/
def strobed : State := { lineReady with cs := { lineReady.cs with back := .complete { Plan.blank with mgb := 900 } } }

/-- The mark stands, and the Negotiator counts as stopped. -/
theorem sleep_due : SleepDue { winding with su := { winding.su with zeroRelease := true } } ∧ NoSleepDue winding ∧ NoSleepDue ready := by decide

theorem witness_ReleaseEdgeSendsTheFrontPlan :
    (AtWork (zeroPlan .unknown) ∧ SleepDue { zeroPlan .unknown with su := (zeroPlan .unknown).su.afterRelease .blank } ∧
      NoSleepDue { zeroPlan .running with su := (zeroPlan .running).su.afterRelease .blank }) ∧
    (AtWork strobed ∧ strobed.cfg.releaseSource = .line ∧ strobed.cs.lastRelease ≠ true ∧ SelectedEdge strobed.cfg.releaseEdge true ∧
      strobed.cs.back = .complete { Plan.blank with mgb := 900 } ∧ strobed.cs.inflight = none) ∧
    (after .cycleTimerExpiry { lineReady with now := 1025 }).cs.inflight.isSome = true ∧ lineReady.cs.back.isComplete = false ∧
    (lineReady.cs.lastRelease ≠ true ∧ ¬ SelectedEdge .falling true) ∧ strobed.cs.lastRelease = false ∧ ready.cfg.releaseSource = .plan ∧
    State.reset.su.part = .loading ∧ asleep.su.part = .sleep := by decide

/-! #### Reception -/

theorem notOwn_idle {s : State} {bits : List Bool} (h : s.bi.tx = none) : NotOwn s bits := by
  intro a ha; rw [h] at ha; cases ha

theorem accepted_of {s : State} {bits : List Bool} {f : Frame} {e : Consumed}
    (h : receiveFrame bits = some f ∧ NotOwn s bits ∧ AtWork s ∧ f.source ≠ s.cfg.station ∧
      (findTopic s.ti.table f.topic).bind (·.consumed) = some e ∧ (e.source = 31 ∨ e.source = f.source) ∧ f.payload.length = kindWords e.kind) :
    Accepted s bits f e :=
  ⟨⟨h.1, h.2.1, h.2.2.1, h.2.2.2.1⟩, h.2.2.2.2.1, h.2.2.2.2.2.1, h.2.2.2.2.2.2⟩

/-- The default table's entry of a kind. -/
def entry (k : Kind) : Consumed := ⟨k, 31, defaultCfg.fresh.get k, defaultCfg.hold.get k, echoChan k⟩

theorem witness_BadAndClashingTelegrams : receiveFrame [true] = none ∧ State.reset.su.part = .loading ∧ ready.su.part = .ready ∧
    winding.su.part = .windingDown ∧ NotOwn ready (frame 300 6 0 []).bits ∧ receiveFrame (frame 300 6 0 []).bits = some (frame 300 6 0 []) ∧
    (frame 300 6 0 []).source = ready.cfg.station ∧ NotOwn starting (frame 300 6 0 []).bits ∧
    starting.bi.tx.map (·.bits) = some (frame 100 6 0 [0, 1]).bits := by decide

/-- The same part with an expected source of 9 for BATTERY. -/
def choosy : State := { ready with ti := .reset [⟨52, some ⟨.battery, 9, 100, 300, none⟩, false⟩, ⟨40, none, true⟩] }

/-- A telegram accepted while an attempt is under way. -/
theorem accepted_during_attempt : starting.bi.tx.isSome = true ∧ Accepted starting (frame 90 9 0 [2]).bits (frame 90 9 0 [2]) (entry .zone) :=
  ⟨by decide, accepted_of (by decide)⟩

theorem witness_RejectedTelegramsChangeNoSlot : NoSleepDue choosy ∧ AtWork { choosy with su := winding.su } ∧
    (Heard choosy (frame 300 9 0 []).bits (frame 300 9 0 []) ∧ (findTopic choosy.ti.table 300).bind (·.consumed) = none) ∧
    (Heard choosy (frame 40 9 0 [1]).bits (frame 40 9 0 [1]) ∧ (findTopic choosy.ti.table 40).bind (·.consumed) = none) ∧
    (Heard choosy (frame 52 8 0 [1]).bits (frame 52 8 0 [1]) ∧
      (findTopic choosy.ti.table 52).bind (·.consumed) = some ⟨.battery, 9, 100, 300, none⟩ ∧ (9 : Nat) ≠ 31 ∧ (9 : Nat) ≠ 8) ∧
    (Heard choosy (frame 52 9 0 [1, 2, 3]).bits (frame 52 9 0 [1, 2, 3]) ∧ (frame 52 9 0 [1, 2, 3]).payload.length ≠ kindWords .battery) :=
  ⟨by decide, by decide, ⟨⟨by decide, notOwn_idle rfl, .inl rfl, by decide⟩, by decide⟩, ⟨⟨by decide, notOwn_idle rfl, .inl rfl, by decide⟩, by decide⟩,
    ⟨⟨by decide, notOwn_idle rfl, .inl rfl, by decide⟩, by decide, by decide, by decide⟩, ⟨⟨by decide, notOwn_idle rfl, .inl rfl, by decide⟩, by decide⟩⟩

/-- A part whose channels have nothing unanswered matches no echo. -/
theorem no_match {s : State} {f : Frame} {e : Consumed} (h : s.cu = .const .reset) : NoEchoMatch s f e := by
  intro c w a _ _ x hx
  rw [h] at hx
  cases c <;> cases hx

theorem witness_AcceptedTelegramFillsItsSlot :
    Accepted ready (frame 61 13 0 [0xff38, 120, 0, 0]).bits (frame 61 13 0 [0xff38, 120, 0, 0]) (entry .mgaEcho) ∧
    isInverted 0xff38 120 = false ∧ ready.ti.slots.ok = true ∧
    Accepted winding (frame 61 13 0 [120, 0xff38, 0, 0]).bits (frame 61 13 0 [120, 0xff38, 0, 0]) (entry .mgaEcho) ∧
    isInverted 120 0xff38 = true ∧ winding.fm.list.length < 16 ∧
    NoEchoMatch winding (frame 61 13 0 [120, 0xff38, 0, 0]) (entry .mgaEcho) :=
  ⟨accepted_of (by decide), by decide, by decide, accepted_of (by decide), by decide, by decide, no_match rfl⟩

/-- A zone, gear or INHIBIT that has been seen once. -/
def seenOnce : State := { ready with ti := { ready.ti with zone := ⟨some .unrestricted, some .zeroEmission⟩, gear := ⟨some .park, some .drive⟩, inhibit := .candidate } }

theorem witness_CodesTakeTwoLooks :
    Accepted seenOnce (frame 90 20 0 [2]).bits (frame 90 20 0 [2]) (entry .zone) ∧
    Accepted seenOnce (frame 80 20 0 [480, 3]).bits (frame 80 20 0 [480, 3]) (entry .gearbox) ∧
    Accepted seenOnce (frame 60 12 0 [5, 300, 0, 0, 0]).bits (frame 60 12 0 [5, 300, 0, 0, 0]) (entry .engine) :=
  ⟨accepted_of (by decide), accepted_of (by decide), accepted_of (by decide)⟩

theorem witness_DemandArrivalStartsComputation :
    (Accepted ready (frame 40 3 7 [800]).bits (frame 40 3 7 [800]) (entry .demand) ∧ (entry .demand).kind = .demand ∧
      ready.cs.lastSeq ≠ some 7 ∧ ready.cs.inflight = none ∧ NoSleepDue ready) ∧
    (after .cycleTimerExpiry { ready with now := 1025 }).cs.inflight.isSome = true ∧
    (after (.telegramReceived (frame 40 3 7 [800]).bits) ready).cs.lastSeq = some 7 := ⟨⟨accepted_of (by decide), by decide⟩, by decide⟩

/-- MGB has three telegrams unanswered, in a handshake state and with a readmission count. -/
def waitingEcho (hs : Handshake) (retry readm : Nat) : State :=
  { ready with cu := ready.cu.set .mgb ⟨hs, false, [⟨8, 700, 980⟩, ⟨9, 500, 985⟩, ⟨10, 500, 990⟩], some 1010, retry, readm⟩ }

/-- MGB_ECHO answering sequence 9, with this status and an applied value of 700. -/
def echo9 (status : Word) : Frame := frame 62 14 0 [0x8000, 0x8000, 700, 0x9000 ||| status]

theorem witness_MatchedEchoAnswersTheChannel :
    (Accepted (waitingEcho .active 0 0) (echo9 0).bits (echo9 0) (entry .mgbEcho) ∧ (entry .mgbEcho).chan = some .mgb ∧
      echoFields .mgbEcho (echo9 0) = some (⟨9, .applied⟩, 700) ∧ echoFields .mgbEcho (echo9 1) = some (⟨9, .clamped⟩, 700)) ∧
    (((waitingEcho .active 0 0).cu.get .mgb).list = [⟨8, 700, 980⟩] ++ ⟨9, 500, 985⟩ :: [⟨10, 500, 990⟩] ∧
      NotYetDue (waitingEcho .active 0 0) [⟨10, 500, 990⟩] ∧ (∀ y ∈ [(⟨8, 700, 980⟩ : Sent)], y.seq ≠ 9)) ∧
    ((waitingEcho .recovery 2 0).cu.get .mgb).hs = .recovery ∧ ((waitingEcho .lost 3 0).cu.get .mgb).readm = 0 ∧
    ((waitingEcho .lost 3 1).cu.get .mgb).readm = 1 ∧ (∀ x ∈ (ready.cu.get .mgb).list, x.seq ≠ 9) :=
  ⟨⟨accepted_of (by decide), by decide⟩, by decide⟩

theorem witness_MatchedEchoLeavesItsOverride :
    Accepted (waitingEcho .active 0 0) (echo9 1).bits (echo9 1) (entry .mgbEcho) ∧ (entry .mgbEcho).chan = some .mgb ∧
    echoFields .mgbEcho (echo9 1) = some (⟨9, .clamped⟩, 700) ∧
    ((waitingEcho .active 0 0).cu.get .mgb).list = [⟨8, 700, 980⟩] ++ ⟨9, 500, 985⟩ :: [⟨10, 500, 990⟩] ∧ (9 : SeqNo) = 9 ∧
    (∀ y ∈ [(⟨8, 700, 980⟩ : Sent)], y.seq ≠ 9) := ⟨accepted_of (by decide), by decide⟩

/-- The Negotiator in a state, an INHIBIT seen once. -/
def engineCase (x : NegState) : State := { ready with en := neg x, ti := { ready.ti with inhibit := .candidate } }

/-- An ENGINE telegram of an engine state's code. -/
def engineFrame (code : Word) : Frame := frame 60 12 0 [code, 300, 900, 0, 0]

theorem engine_off_received : receiveFrame (engineFrame 0).bits = some (engineFrame 0) := by decide
theorem engine_cranking_received : receiveFrame (engineFrame 1).bits = some (engineFrame 1) := by decide
theorem engine_running_received : receiveFrame (engineFrame 2).bits = some (engineFrame 2) := by decide
theorem engine_stopping_received : receiveFrame (engineFrame 3).bits = some (engineFrame 3) := by decide
theorem engine_fault_received : receiveFrame (engineFrame 4).bits = some (engineFrame 4) := by decide
theorem engine_inhibit_received : receiveFrame (engineFrame 5).bits = some (engineFrame 5) := by decide

theorem engine_accepted (x : NegState) (code : Word) (h : receiveFrame (engineFrame code).bits = some (engineFrame code)) :
    Accepted (engineCase x) (engineFrame code).bits (engineFrame code) (entry .engine) := by
  have ht : (findTopic (engineCase x).ti.table 60).bind (·.consumed) = some (entry .engine) :=
    (by decide : (findTopic ready.ti.table 60).bind (·.consumed) = some (entry .engine))
  exact ⟨⟨h, notOwn_idle rfl, .inl rfl, (by decide : (12 : Nat) ≠ 6)⟩, ht, .inl rfl, rfl⟩

/-- An OFF accepted while a start is under way. -/
theorem engine_accepted_cranking (n : Nat) : Accepted (cranking n) (engineFrame 0).bits (engineFrame 0) (entry .engine) :=
  ⟨⟨engine_off_received, notOwn_idle rfl, .inl rfl, (by decide : (12 : Nat) ≠ 6)⟩,
    (by decide : (findTopic ready.ti.table 60).bind (·.consumed) = some (entry .engine)), .inl rfl, rfl⟩

theorem witness_EngineStatesMoveTheNegotiator (x : NegState) :
    (Accepted (engineCase x) (engineFrame 0).bits (engineFrame 0) (entry .engine) ∧ engineStateOf 0 = .off) ∧
    (Accepted (engineCase x) (engineFrame 1).bits (engineFrame 1) (entry .engine) ∧ engineStateOf 1 = .cranking) ∧
    (Accepted (engineCase x) (engineFrame 2).bits (engineFrame 2) (entry .engine) ∧ engineStateOf 2 = .running) ∧
    (Accepted (engineCase x) (engineFrame 3).bits (engineFrame 3) (entry .engine) ∧ engineStateOf 3 = .stopping) ∧
    (Accepted (engineCase x) (engineFrame 4).bits (engineFrame 4) (entry .engine) ∧ engineStateOf 4 = .fault) ∧
    (Accepted (engineCase x) (engineFrame 5).bits (engineFrame 5) (entry .engine) ∧ engineStateOf 5 = .inhibit) ∧
    (engineCase x).ti.inhibit ≠ .clear ∧ (engineCase x).en.state = x ∧ NoEchoMatch (engineCase x) (engineFrame 0) (entry .engine) ∧
    (cranking 2).en.failed + 1 = 3 ∧ (cranking 1).en.failed + 1 < 3 ∧ ready.ti.inhibit = .clear :=
  ⟨⟨engine_accepted x 0 engine_off_received, by decide⟩, ⟨engine_accepted x 1 engine_cranking_received, by decide⟩,
    ⟨engine_accepted x 2 engine_running_received, by decide⟩, ⟨engine_accepted x 3 engine_stopping_received, by decide⟩,
    ⟨engine_accepted x 4 engine_fault_received, by decide⟩, ⟨engine_accepted x 5 engine_inhibit_received, by decide⟩,
    (by decide : InhibitRecord.candidate ≠ .clear), rfl, no_match rfl, rfl, by decide, rfl⟩

/-! #### The cycle -/

/-- The default part with a computation in flight that the cycle timer started. -/
def computing : State := after .cycleTimerExpiry { ready with now := 1025 }

theorem witness_CycleTimerStartsComputation : (ready.su.part = .ready ∧ ready.cs.timer = some 1025 ∧ 1025 ≤ (ready.withNow 1025).now ∧ ready.cs.inflight = none) ∧
    (winding.su.part = .windingDown ∧ winding.cs.timer = some 1025) ∧
    (computing.su.part = .ready ∧ computing.cs.timer = some 1050 ∧ 1050 ≤ (computing.withNow 1050).now ∧ computing.cs.inflight.isSome = true) := by decide
/-- The same with release source LINE, and with a start pending behind it. -/
def strobedComputing : State := { computing with cfg := lineReady.cfg }
def waitingStart (s : State) : State := after .cycleTimerExpiry (s.withNow 1050)

theorem witness_CompletionReportsThePlan : ∃ c r, strobedComputing.cs.inflight = some c ∧ strobedComputing.cs.back = .computing r ∧
    strobedComputing.cs.pendingStart = none ∧ strobedComputing.cfg.releaseSource = .line ∧
    (waitingStart strobedComputing).cs.inflight = some c ∧ (waitingStart strobedComputing).cs.back = .computing r ∧
    (waitingStart strobedComputing).cs.pendingStart = some .timer ∧ (fillPlan strobedComputing.cfg c r).marks.mga = false :=
  ⟨_, _, rfl, rfl, rfl, rfl, rfl, rfl, rfl, by decide⟩

/-- The part winding down with a computation in flight. -/
def windingComputing : State := after .cycleTimerExpiry { winding with now := 1025 }

theorem witness_CompletionReleasesThePlan : (∃ c r, computing.cs.inflight = some c ∧ computing.cs.back = .computing r ∧
    computing.cfg.releaseSource = .plan ∧ computing.cs.pendingStart = none ∧
    (waitingStart computing).cs.inflight = some c ∧ (waitingStart computing).cs.pendingStart = some .timer) ∧
    ∃ c r, windingComputing.cs.inflight = some c ∧ windingComputing.cs.back = .computing r ∧ windingComputing.cfg.releaseSource = .plan ∧
    SleepDue { windingComputing with su := windingComputing.su.afterRelease (fillPlan windingComputing.cfg c r) } :=
  ⟨⟨_, _, rfl, rfl, rfl, rfl, rfl, rfl⟩, _, _, rfl, rfl, rfl, by decide⟩

/-- A computation in flight with these start and stop decisions, the Negotiator in this state. -/
def deciding (x : NegState) (start stop : Bool) : State := { computing with
  en := neg x
  cs := { computing.cs with inflight := computing.cs.inflight.map (fun c => { c with sel := { c.sel with startWanted := start, stopWanted := stop } }) } }

theorem witness_HandOverMovesTheNegotiator : ∃ c d e r, (deciding .stopped true false).cs.inflight = some c ∧ c.sel.startWanted = true ∧
    (deciding .startPending false false).cs.inflight = some d ∧ d.sel.startWanted = false ∧
    (deciding .running false true).cs.inflight = some e ∧ e.sel.stopWanted = true ∧
    (after .computationComplete (deciding .running false true)).ms.handback = true ∧ (deciding .running false true).cs.back = .computing r ∧
    (deciding .running false true).cfg.releaseSource = .plan ∧ NoSleepDue (deciding .running false true) :=
  ⟨_, _, _, _, rfl, rfl, rfl, rfl, rfl, rfl, by decide, rfl, rfl, by decide⟩

/-! #### Attempts -/

/-- The loaded part with an attempt under way. -/
def sending : State := after .attemptStart loaded

theorem witness_AttemptTakesTheLowestTopic : loaded.working = true ∧ loaded.bi.link = .active ∧ loaded.bi.tx = none ∧ loaded.bi.waiting ≠ [] := by decide
theorem witness_AttemptWritesSequenceAndCheck : ∃ t a, exec .attemptStart loaded = .next t ∧ loaded.bi.tx = none ∧ t.bi.tx = some a ∧
    a.telegram = .setpoint .eng ⟨250, false, .none⟩ ∧ ready.bi.waiting = [] ∧ sending.bi.tx.isSome = true ∧ State.reset.su.part = .loading ∧
    asleep.su.part = .sleep := ⟨_, _, rfl, rfl, rfl, rfl, rfl, rfl, rfl, rfl⟩
/-- The part with only STATUS waiting. -/
def statusOnly : State := { loaded with bi := { loaded.bi with queue := .const none } }
theorem witness_ContentionLossReturnsTheTelegram : ∃ a b sp st, sending.bi.tx = some a ∧ a.telegram = .setpoint .eng sp ∧
    (Chan.eng ≠ .eng → sp.request = .none) ∧ (after .attemptStart statusOnly).bi.tx = some b ∧ b.telegram = .status st :=
  ⟨_, _, _, _, rfl, rfl, fun h => absurd rfl h, rfl, rfl⟩
theorem witness_SixteenErrorsSilenceTheLink : ∃ a b sp st, sending.bi.tx = some a ∧ a.telegram = .setpoint .eng sp ∧ sending.bi.errors + 1 < 16 ∧
    (after .attemptStart statusOnly).bi.tx = some b ∧ b.telegram = .status st ∧
    16 ≤ ({ sending with bi := { sending.bi with errors := 15 } } : State).bi.errors + 1 ∧
    ({ ready with bi := { ready.bi with silentTimer := some 1000 } } : State).bi.silentTimer = some 1000 ∧ 1000 ≤ ready.now :=
  ⟨_, _, _, _, rfl, rfl, by decide, rfl, rfl, by decide, rfl, by decide⟩
/-- The slow brake in another handshake state. -/
def silentFric (hs : Handshake) (retry : Nat) : State := { slowEcho with
  cu := slowEcho.cu.set .fric { slowEcho.cu.fric with hs := hs, retry := retry } }
theorem witness_CompleteSendIsReported : ∃ a b c sp sq st, sending.bi.tx = some a ∧ a.telegram = .setpoint .eng sp ∧
    (sending.cu.get .eng).list.length < 4 ∧ NotYetDue sending ((sending.cu.get .eng).list ++ [⟨a.seq, sp.value, sending.now⟩]) ∧
    (after .attemptStart statusOnly).bi.tx = some b ∧ b.telegram = .status st ∧ sending.en.state ≠ .withdrawing ∧
    slowEcho.bi.tx = some c ∧ c.telegram = .setpoint .fric sq ∧ (slowEcho.cu.get .fric).list = ⟨0, 0, 0⟩ :: [⟨1, 0, 5⟩, ⟨2, 0, 10⟩, ⟨3, 0, 15⟩] ∧
    NotYetDue slowEcho [⟨1, 0, 5⟩, ⟨2, 0, 10⟩, ⟨3, 0, 15⟩] ∧ (slowEcho.cu.get .fric).hs = .active ∧
    (slowEcho.cu.get .fric).retry + 1 < slowEcho.cfg.nRetry ∧
    (silentFric .recovery 2).bi.tx = some c ∧ ((silentFric .recovery 2).cu.get .fric).list = ⟨0, 0, 0⟩ :: [⟨1, 0, 5⟩, ⟨2, 0, 10⟩, ⟨3, 0, 15⟩] ∧
    (silentFric .recovery 2).cfg.nRetry ≤ ((silentFric .recovery 2).cu.get .fric).retry + 1 ∧ (silentFric .lost 3).bi.tx = some c ∧
    ((silentFric .lost 3).cu.get .fric).hs = .lost :=
  ⟨_, _, _, _, _, _, rfl, rfl, by decide, by decide, rfl, rfl, by decide, rfl, rfl, rfl, by decide, rfl, by decide, rfl, rfl, by decide, rfl, rfl⟩

/-- An ENG telegram with this request is on the bus while a start is withdrawn. -/
def withdrawing (r : Request) (n : Nat) (e : Option EngineState) : State :=
  { ready with en := { neg .withdrawing with withdrawals := n, observed := e }, bi := { ready.bi with tx := some ⟨.setpoint .eng ⟨0, false, r⟩, 0, []⟩ } }
theorem witness_SecondNoneSendEndsWithdrawal (r : Request) (n : Nat) (e : Option EngineState) :
    (withdrawing r n e).bi.tx = some ⟨.setpoint .eng ⟨0, false, r⟩, 0, []⟩ ∧
    (withdrawing r n e).en.state = .withdrawing ∧ (withdrawing r n e).en.withdrawals = n ∧ (withdrawing r n e).en.observed = e :=
  ⟨rfl, rfl, rfl, rfl⟩

/-! #### Timed commands -/

theorem witness_EchoDeadlineGivesUpTheOldest :
    ((silentMotor.cu.get .mgb).deadline = some 66 ∧ 66 ≤ silentMotor.now ∧
      (silentMotor.cu.get .mgb).list = ⟨8, 930, 36⟩ :: [⟨9, 930, 48⟩, ⟨10, 930, 60⟩] ∧ NotYetDue silentMotor [⟨9, 930, 48⟩, ⟨10, 930, 60⟩] ∧
      (silentMotor.cu.get .mgb).hs = .recovery ∧ silentMotor.cfg.nRetry ≤ (silentMotor.cu.get .mgb).retry + 1 ∧
      silentMotor.bi.queue.get .mgb = none) ∧
    (((waitingEcho .active 0 0).withNow 1010).cu.get .mgb).deadline = some 1010 ∧
    NotYetDue ((waitingEcho .active 0 0).withNow 1010) [⟨9, 500, 985⟩, ⟨10, 500, 990⟩] ∧
    ((waitingEcho .active 0 0).cu.get .mgb).retry + 1 < (waitingEcho .active 0 0).cfg.nRetry ∧
    ((waitingEcho .lost 3 1).cu.get .mgb).hs = .lost ∧
    ({ silentMotor with bi := loaded.bi } : State).bi.queue.get .mgb = some ⟨900, false, .none⟩ := by decide
theorem witness_StartTimersFailTheStart : 1000 ≤ (startPending 0).now ∧ (startPending 1).en.state = .startPending ∧
    (startPending 1).en.ack = some 1000 ∧ (startPending 1).en.failed + 1 < 3 ∧ (cranking 1).en.state = .cranking ∧ (cranking 1).en.start = some 1000 ∧
    (startPending 2).en.failed + 1 = 3 ∧ (cranking 2).en.failed + 1 = 3 ∧ RequestOk (startPending 0) := by
  refine ⟨by decide, by decide, by decide, by decide, by decide, by decide, by decide, by decide, ?_⟩
  intro sp h; cases h
theorem witness_StopTimerAndInhibitHold : ({ ready with en := { neg .stopPending with stop := some 1000 } } : State).en.state = .stopPending ∧
    ({ ready with en := { neg .inhibited with hold := some 1000 } } : State).en.hold = some 1000 ∧ 1000 ≤ ready.now := by decide

/-- An ENGINE slot last heard at 900. -/
def heardEngine (st : Freshness) (x : NegState) : State := { engineCase x with
  now := 1051, ti := { (engineCase x).ti with slots := { Slots.reset with engine := .received 900 st ⟨.running, none, 900, ⟨0, .applied⟩, 0⟩ } } }

theorem witness_SlotsAgeToHeldAndStale :
    ((heardBrake 51 .fresh).ti.slots.stamp .brake = some (20, .fresh) ∧ findKind (heardBrake 51 .fresh).ti.table .brake = some (entry .brake) ∧
      (entry .brake).fresh < 51 - 20 ∧ 51 - 20 ≤ (entry .brake).hold) ∧
    ((entry .brake).hold < 111 - 20 ∧ (heardBrake 111 .held).now = 111) ∧
    ((heardEngine .held .inhibited).ti.slots.stamp .engine = some (900, .held) ∧
      findKind (heardEngine .held .inhibited).ti.table .engine = some (entry .engine) ∧ (entry .engine).fresh < 1051 - 900 ∧
      (entry .engine).hold < 1051 - 900 ∧ (heardEngine .held .inhibited).en.state = .inhibited ∧ (heardEngine .held .lockedOut).en.state = .lockedOut) := by decide

/-- Removal times of both faults for topic 70 and of one for topic 71. -/
def removing : State := { ready with ti := { ready.ti with removals := [⟨.sourceMismatch, 70, 1000⟩, ⟨.lengthError, 70, 1000⟩, ⟨.lengthError, 71, 1001⟩] } }

theorem witness_FaultRemovalTimeRemoves : (∃ r ∈ removing.ti.removals, r.fault = .sourceMismatch ∧ r.topic = 70 ∧ r.time ≤ removing.now) ∧
    (∃ r ∈ removing.ti.removals, r.fault = .lengthError ∧ r.topic = 70 ∧ r.time ≤ removing.now) ∧
    (∀ r ∈ removing.ti.removals, ¬ (r.fault = .lengthError ∧ r.topic = 71 ∧ r.time ≤ removing.now)) := by decide

/-! #### Arithmetic, envelope, allocation -/

theorem witness_TorqueRangeKeepsTheAllowance : (0 : Int) < 7000 ∧ (700 : Int) ≤ 990 ∧ (torqueRange (-128) 600 7000 990).isEmpty = false ∧
    (torqueRange (-128) 600 7000 990).has (torqueMax 600 7000 990) = true ∧ (torqueRange 50 600 1 700).isEmpty = false ∧
    (torqueRange 50 600 1 700).has (torqueMin 50 1 700) = true := by decide
theorem witness_TorqueRangeEnds : (0 : Int) ≤ 0 ∧ (0 : Int) < 1 ∧ (700 : Int) ≤ 700 ∧ (700 : Int) ≤ 990 := by decide
theorem witness_CrankEquivalentFallsShort : (250 : Int) ≤ 250 ∧ (2000 : Int) ≤ 2000 ∧ crankOf (-6000) 2000 = -300 ∧ crankOf 6000 250 = 2400 := by decide
theorem witness_ElectricalPowerOfAMachine : (0 : Int) ≤ 0 ∧ (0 : Int) < 1 ∧ (700 : Int) ≤ 700 ∧ (990 : Int) ≤ 990 ∧ (0 : Int) < 250 ∧ (-250 : Int) < 0 := by decide
theorem witness_WorkingValuesComeFromTheSnapshot : (heardBrake 51 .held).snapshot.slots.brake = .received 20 .held ⟨none, 1500, 0, ⟨0, .applied⟩⟩ ∧
    Freshness.held ≠ .stale ∧ ready.snapshot.slots.brake = .never ∧ ready.snapshot.slots.engine = .never ∧ ready.snapshot.slots.demand = .never ∧
    (after (.telegramReceived (frame 40 3 7 [4501]).bits) ready).snapshot.slots.demand = .received 1000 .fresh 4501 ∧
    ready.snapshot.gear ≠ some .park ∧ ready.snapshot.part ≠ .windingDown ∧ winding.snapshot.part = .windingDown := by decide

/-- The MGB layers of the override that conflicts. -/
def conflictLayers : Layers := ⟨.unbounded, .closed 700 700, .unbounded, .unbounded, .closed (-600) 600, .closed (-2000) 2000⟩

theorem witness_FinalWindowObeysTheTopLayer :
    (∀ x ∈ [conflictLayers.safety, conflictLayers.machine, conflictLayers.battery, conflictLayers.brake, conflictLayers.derate, conflictLayers.calibration],
      x.isEmpty = false) ∧ conflictLayers.calibration ≠ ⟨none, none⟩ ∧
    [conflictLayers.safety, conflictLayers.machine, conflictLayers.battery, conflictLayers.brake, conflictLayers.derate, conflictLayers.calibration] =
      [⟨none, none⟩] ++ conflictLayers.machine :: [conflictLayers.battery, conflictLayers.brake, conflictLayers.derate, conflictLayers.calibration] ∧
    conflictLayers.machine ≠ ⟨none, none⟩ := by decide

theorem cfgOk_default : CfgOk defaultCfg := by constructor <;> decide

theorem witness_CommandsLieInTheirWindows : CfgOk defaultCfg ∧ ready.snapshot.slots.ok = true ∧
    (let p := fillPlan defaultCfg (computationFrom defaultCfg ready.snapshot 0) .blank
     p.windows.batt.has (elecPower (forcedValue p.windows.mga) 0 900 + elecPower (forcedValue p.windows.mgb) 0 920) = true) ∧
    (∀ x, ready.snapshot.slots.engine.live = some x → x.state ≠ .running) := by
  refine ⟨cfgOk_default, by decide, by decide, ?_⟩
  intro x h
  have h' : ready.snapshot.slots.engine.live = none := by decide
  rw [h'] at h; cases h
theorem witness_PassKeepsTheSignOfTheResidual : (hybridRun.g = 0 ∨ (250 ≤ hybridRun.g ∧ hybridRun.g ≤ 2000)) ∧ 0 ≤ (baseRun hybridRun).residual hybridRun ∧
    (baseRun { hybridRun with dc := -1800 }).residual { hybridRun with dc := -1800 } ≤ 0 := by decide
/-- A snapshot in HYBRID with the engine running and a blend half way. -/
def blending : Snapshot := { ready.snapshot with
  ms := { ready.snapshot.ms with mode := .hybrid, lastEng := 75, blend := ⟨true, 0, 16⟩ }
  slots := { ready.snapshot.slots with
    demand := .received 0 .fresh 2400
    gearbox := .received 0 .fresh ⟨480, .drive⟩
    battery := .received 0 .fresh ⟨some 600, some 400, 500, .normal⟩
    engine := .received 0 .fresh ⟨.running, some 300, 1920, ⟨0, .applied⟩, 0⟩ } }

theorem witness_BlendPinLiesBetween : CfgOk defaultCfg ∧ blending.slots.ok = true ∧ ModeSelOk blending.ms ∧
    (computationFrom defaultCfg blending 0).sel.blend.active = true ∧ (computationFrom defaultCfg ready.snapshot 0).sel.blend.active = false ∧
    (⟨true, 0, 32⟩ : Blend).active = true ∧ 1 ≤ (⟨true, 0, 1⟩ : Blend).factor ∧ (⟨true, 0, 32⟩ : Blend).factor ≤ 32 ∧
    (Window.closed 0 300).has 300 = true := by
  refine ⟨cfgOk_default, ?_⟩; decide
theorem witness_ZeroEmissionStopsTheStart : ∃ t a sp, RequestOk loaded ∧ step loaded.tick = .next t ∧
    exec .attemptStart { loaded with ti := { loaded.ti with zone := ⟨some .zeroEmission, none⟩ } } = .next a ∧
    a.bi.tx.map (·.telegram) = some (.setpoint .eng sp) := by
  refine ⟨_, _, _, ?_, rfl, rfl, rfl⟩
  intro sp h; cases h; rfl
theorem witness_StartWanted : (computationFrom { defaultCfg with nStart := 0 } { ready.snapshot with slots := { ready.snapshot.slots with
    engine := .received 0 .fresh ⟨.off, none, 0, ⟨0, .applied⟩, 0⟩ } } 0).sel.startWanted = true := by decide

theorem witness_FrameRoundTrip : 1 ≤ (frame 1 30 15 [1, 2, 3, 4, 5, 6, 7, 8]).topic ∧ (frame 511 0 0 []).topic ≤ 511 ∧
    (frame 1 30 15 [1, 2, 3, 4, 5, 6, 7, 8]).source ≤ 30 ∧ (frame 1 30 15 [1, 2, 3, 4, 5, 6, 7, 8]).payload.length ≤ 8 := by decide

/-! #### Invariants -/

theorem witness_RangesStayKept : CfgOk computing.cfg ∧ TableOk computing.ti.table ∧ computing.ti.slots.ok = true ∧ SchedOk computing.cs ∧
    ComputationOk computing ∧ ModeSelOk computing.ms ∧ ModeSelOk { ready.ms with lastEng := 420, blend := ⟨true, 420, 32⟩ } ∧
    SelectionOk computing ∧ ∃ t, step (computing.withPending [.computationComplete]) = .next t := by
  refine ⟨cfgOk_default, by decide, by decide, by decide, ?_, by decide, by decide, ?_, _, rfl⟩
  · intro c h; cases h; exact ⟨rfl, by decide⟩
  · intro c h; cases h; decide
theorem witness_FaultListStaysSound : FaultsOk silentMotor.fm ∧ ∃ t, step (silentMotor.withPending [.echoDeadlineExpiry .mgb]) = .next t := ⟨by decide, _, rfl⟩

theorem settled_working {s : State} (h : NegOk s.en) (hw : s.working = true) (hp : s.su.part ≠ .loading) : Settled s :=
  ⟨h, fun h' => Bool.noConfusion (hw.symm.trans h'), fun h' => absurd h' hp⟩

theorem witness_PartStaysSettled : NegOk (startPending 2).en ∧ Settled (startPending 2) ∧
    ∃ t, step ((startPending 2).withPending [.ackTimerExpiry]) = .next t :=
  ⟨by decide, settled_working (by decide) (by decide) (by decide), _, rfl⟩
theorem witness_HandshakeStaysSound : Settled silentMotor ∧ CfgOk silentMotor.cfg ∧
    EveryChan (fun c => HandshakeOk silentMotor.cfg.nRetry (silentMotor.cu.get c)) ∧
    ∃ t, step (silentMotor.withPending [.echoDeadlineExpiry .mgb]) = .next t :=
  ⟨settled_working (by decide) (by decide) (by decide), cfgOk_default, by decide, _, rfl⟩
theorem witness_SendListsStaySound : AttemptOk slowEcho.bi ∧ EveryChan (fun c => ListOk (slowEcho.bi.seqs.get c) (slowEcho.cu.get c)) ∧ Settled slowEcho ∧
    EveryChan (fun c => DeadlineOk slowEcho.cfg.echoTimeout (slowEcho.cu.get c)) ∧ ∃ t, step (slowEcho.withPending [.completeSend]) = .next t := by
  refine ⟨?_, by decide, settled_working (by decide) (by decide) (by decide), by decide, _, rfl⟩
  intro a h; cases h; rfl
theorem witness_CompletePlansStaySound : CompletePlans Plan.Balanced computing ∧ Settled computing ∧ CfgOk computing.cfg ∧ computing.ti.slots.ok = true ∧
    ComputationOk computing ∧ CompletePlans Plan.Within computing ∧ ∃ t, step (computing.withPending [.computationComplete]) = .next t := by
  refine ⟨⟨?_, ?_⟩, settled_working (by decide) (by decide) (by decide), cfgOk_default, by decide, ?_, ⟨?_, ?_⟩, _, rfl⟩
  · intro p h; cases h
  · intro p h; cases h
  · intro c h; cases h; exact ⟨rfl, by decide⟩
  · intro p h; cases h
  · intro p h; cases h
theorem witness_LinesAndTimersStaySound : LostFaultOk silentMotor ∧ ShutOk silentMotor ∧ LinkOk silentMotor.bi ∧ LinkOk { sending.bi with errors := 15 } ∧
    LinkOk { sending.bi with errors := 16, link := .silent, silentTimer := some 1050, tx := none } ∧ WindingOk winding ∧ NoSleepDue winding ∧
    ∃ t, step (silentMotor.withPending [.echoDeadlineExpiry .mgb]) = .next t :=
  ⟨by decide, by decide, by decide, by decide, by decide, by decide, by decide, _, rfl⟩

end Sys2Proof.Tests
end

section
/-! PROOFS. Quantities and conversions (spec/01): the roundings, the axle contribution and its inverse, the electrical power and the torque range, and the working values of a computation. -/

namespace Sys2Proof.Machine

/-! ### The roundings (R2) -/

theorem floorDiv_eq_ediv (a : Int) {b : Int} (hb : 0 < b) : floorDiv a b = a / b :=
  Int.fdiv_eq_ediv_of_nonneg a hb.le

/-- Rounding down is the largest whole number whose product fits below. -/
theorem le_floorDiv_iff {m a b : Int} (hb : 0 < b) : m ≤ floorDiv a b ↔ m * b ≤ a := by
  rw [floorDiv_eq_ediv a hb, Int.le_ediv_iff_mul_le hb]

/-- Rounding up is the smallest whole number whose product reaches. -/
theorem ceilDiv_le_iff {m a b : Int} (hb : 0 < b) : ceilDiv a b ≤ m ↔ a ≤ m * b := by
  have hneg : ceilDiv a b ≤ m ↔ -m ≤ floorDiv (-a) b := neg_le
  rw [hneg, le_floorDiv_iff hb, neg_mul, neg_le_neg_iff]

theorem lt_ceilDiv_iff {m a b : Int} (hb : 0 < b) : m < ceilDiv a b ↔ m * b < a := by
  rw [← not_le, ceilDiv_le_iff hb, not_le]

theorem le_ceilDiv_mul (a : Int) {b : Int} (hb : 0 < b) : a ≤ ceilDiv a b * b := (ceilDiv_le_iff hb).1 le_rfl

theorem ceilDiv_sub_one_mul_lt (a : Int) {b : Int} (hb : 0 < b) : (ceilDiv a b - 1) * b < a :=
  (lt_ceilDiv_iff hb).1 (sub_one_lt _)

theorem ceilDiv_mono {a a' b : Int} (hb : 0 < b) (h : a ≤ a') : ceilDiv a b ≤ ceilDiv a' b :=
  (ceilDiv_le_iff hb).2 (h.trans (le_ceilDiv_mul a' hb))

theorem ceilDiv_pos {a b : Int} (hb : 0 < b) (ha : 0 < a) : 0 < ceilDiv a b :=
  (lt_ceilDiv_iff hb).2 (by rwa [zero_mul])

theorem trunc_neg (a b : Int) : trunc (-a) b = -trunc a b := Int.neg_tdiv a b

theorem trunc_nonneg {a b : Int} (hb : 0 ≤ b) (ha : 0 ≤ a) : 0 ≤ trunc a b := Int.tdiv_nonneg ha hb

theorem trunc_nonpos {a b : Int} (hb : 0 ≤ b) (ha : a ≤ 0) : trunc a b ≤ 0 := by
  have hneg := trunc_nonneg hb (neg_nonneg.2 ha)
  rw [trunc_neg] at hneg
  exact neg_nonneg.1 hneg

theorem trunc_zero (b : Int) : trunc 0 b = 0 := Int.zero_tdiv b

/-- Rounding toward zero is rounding down at or above 0: the product falls short by less than the divisor. -/
theorem trunc_bounds {a b : Int} (hb : 0 < b) (ha : 0 ≤ a) : trunc a b * b ≤ a ∧ a < (trunc a b + 1) * b := by
  have heq : trunc a b = a / b := Int.tdiv_eq_ediv_of_nonneg ha
  rw [heq]
  exact ⟨Int.ediv_mul_le a hb.ne', Int.lt_ediv_add_one_mul_self a hb⟩

/-- Rounding toward zero never makes a magnitude larger. -/
theorem mul_natAbs_trunc_le (a : Int) {b : Int} (hb : 0 < b) : b * ((trunc a b).natAbs : Int) ≤ a.natAbs := by
  have habs : ∀ x : Int, 0 ≤ x → b * ((trunc x b).natAbs : Int) ≤ x.natAbs := fun x hx => by
    rw [Int.natAbs_of_nonneg hx, Int.natAbs_of_nonneg (trunc_nonneg hb.le hx), mul_comm]
    exact (trunc_bounds hb hx).1
  rcases le_total 0 a with ha | ha
  · exact habs a ha
  · have hneg := habs (-a) (neg_nonneg.2 ha)
    rwa [trunc_neg, Int.natAbs_neg, Int.natAbs_neg] at hneg

/-! ### Axle contribution and crank equivalent (R11, R12) -/

theorem axleOf_neg (c g : Int) : axleOf (-c) g = -axleOf c g := by rw [axleOf, neg_mul, trunc_neg, axleOf]

theorem crankOf_neg (x g : Int) : crankOf (-x) g = -crankOf x g := by rw [crankOf, neg_mul, trunc_neg, crankOf]

theorem axleOf_zero_left (g : Int) : axleOf 0 g = 0 := by rw [axleOf, zero_mul, trunc_zero]

theorem axleOf_zero_right (c : Int) : axleOf c 0 = 0 := by rw [axleOf, mul_zero, trunc_zero]

theorem axleOf_nonneg {c g : Int} (hg : 0 ≤ g) (hc : 0 ≤ c) : 0 ≤ axleOf c g := trunc_nonneg (by decide) (mul_nonneg hc hg)

theorem axleOf_nonpos {c g : Int} (hg : 0 ≤ g) (hc : c ≤ 0) : axleOf c g ≤ 0 :=
  trunc_nonpos (by decide) (mul_nonpos_of_nonpos_of_nonneg hc hg)

theorem natAbs_axleOf_le (c : Int) {g : Int} (hg : 0 ≤ g) : 100 * ((axleOf c g).natAbs : Int) ≤ (c.natAbs : Int) * g := by
  have hmul : (((c * g).natAbs : Nat) : Int) = (c.natAbs : Int) * g := by
    rw [Int.natAbs_mul, Int.natCast_mul, Int.natAbs_of_nonneg hg]
  exact hmul ▸ mul_natAbs_trunc_le (c * g) (by decide)

theorem axleOf_crankOf_neg (x g : Int) : axleOf (crankOf (-x) g) g = -axleOf (crankOf x g) g := by
  rw [crankOf_neg, axleOf_neg]

/-- The two truncations of R12 together lose less than `g + 99` hundredths of a newton-metre. -/
theorem axleOf_crankOf_bounds {x g : Int} (hg : 0 < g) (hx : 0 ≤ x) :
    0 ≤ axleOf (crankOf x g) g ∧ axleOf (crankOf x g) g ≤ x ∧ 100 * (x - axleOf (crankOf x g) g) < g + 99 := by
  have hc : 0 ≤ crankOf x g := trunc_nonneg hg.le (by omega)
  have hcrank : crankOf x g * g ≤ x * 100 ∧ x * 100 < (crankOf x g + 1) * g := trunc_bounds hg (by omega)
  have haxle : axleOf (crankOf x g) g * 100 ≤ crankOf x g * g ∧ crankOf x g * g < (axleOf (crankOf x g) g + 1) * 100 :=
    trunc_bounds (by decide) (mul_nonneg hc hg.le)
  rw [add_mul, one_mul] at hcrank
  exact ⟨axleOf_nonneg hg.le hc, by omega, by omega⟩

/-! ### Electrical power (R13) -/

theorem elecPower_of_zero {t n : Int} (η : Int) (h : t = 0 ∨ n = 0) : elecPower t n η = 0 := if_pos h

theorem elecPower_of_pos {t n : Int} (η : Int) (ht : 0 < t) (hn : 0 < n) :
    elecPower t n η = ceilDiv (t * n * 1000) (955 * η) := by
  have hne : ¬ (t = 0 ∨ n = 0) := by omega
  rw [elecPower, if_neg hne, if_pos ht]

theorem elecPower_of_neg {t n : Int} (η : Int) (ht : t < 0) (hn : 0 < n) :
    elecPower t n η = -ceilDiv (-t * n * η) 955000 := by
  have hne : ¬ (t = 0 ∨ n = 0) := by omega
  rw [elecPower, if_neg hne, if_neg ht.not_gt]

/-! ### The lines of the torque range (R15) -/

theorem torqueRange_eq (eLo eHi : Int) {n : Int} (η : Int) (hn : 0 < n) :
    torqueRange eLo eHi n η = .closed (torqueMin eLo n η) (torqueMax eHi n η) := if_neg hn.ne'

theorem torqueMax_of_nonneg {e : Int} (n η : Int) (he : 0 ≤ e) :
    torqueMax e n η = floorDiv (e * 955 * η) (1000 * n) := if_pos he

theorem torqueMax_of_neg {e : Int} (n η : Int) (he : e < 0) :
    torqueMax e n η = -ceilDiv (-e * 955000) (n * η) := if_neg he.not_ge

theorem torqueMin_of_nonpos {e : Int} (n η : Int) (he : e ≤ 0) :
    torqueMin e n η = -floorDiv (-e * 955000) (n * η) := if_pos he

theorem torqueMin_of_pos {e : Int} (n η : Int) (he : 0 < e) :
    torqueMin e n η = ceilDiv (e * 955 * η) (1000 * n) := if_neg he.not_ge

/-! ### Power and torque range at a speed above 0 (R13, R15, R17) -/

section
variable {n η : Int} (hn : 0 < n) (hη : 0 < η)
include hn hη

theorem elecPower_pos {t : Int} (ht : 0 < t) : 0 < elecPower t n η := by
  rw [elecPower_of_pos η ht hn]
  exact ceilDiv_pos (by omega) (by positivity)

theorem elecPower_neg {t : Int} (ht : t < 0) : elecPower t n η < 0 := by
  have htorque : 0 < -t := neg_pos.2 ht
  rw [elecPower_of_neg η ht hn]
  exact neg_neg_of_pos (ceilDiv_pos (by decide) (by positivity))

theorem elecPower_nonneg {t : Int} (ht : 0 ≤ t) : 0 ≤ elecPower t n η := by
  rcases ht.eq_or_lt with rfl | ht
  · exact (elecPower_of_zero η (.inl rfl)).ge
  · exact (elecPower_pos hn hη ht).le

theorem elecPower_nonpos {t : Int} (ht : t ≤ 0) : elecPower t n η ≤ 0 := by
  rcases ht.eq_or_lt with rfl | ht
  · exact (elecPower_of_zero η (.inl rfl)).le
  · exact (elecPower_neg hn hη ht).le

/-- The power does not fall as the torque rises: each of the two lines rises, and 0 parts them. -/
theorem elecPower_mono {t u : Int} (h : t ≤ u) : elecPower t n η ≤ elecPower u n η := by
  rcases lt_or_ge 0 t with ht | ht
  · rw [elecPower_of_pos η ht hn, elecPower_of_pos η (ht.trans_le h) hn]
    exact ceilDiv_mono (by omega) (by gcongr)
  rcases lt_or_ge u 0 with hu | hu
  · rw [elecPower_of_neg η (h.trans_lt hu) hn, elecPower_of_neg η hu hn]
    exact neg_le_neg (ceilDiv_mono (by decide) (by gcongr))
  · exact (elecPower_nonpos hn hη ht).trans (elecPower_nonneg hn hη hu)

/-! #### The torque range (R15, R17) -/

/-- R15, first line: at or above 0 the upper end is exactly the largest torque whose power the allowance holds. -/
theorem elecPower_le_iff_le_torqueMax {e : Int} (he : 0 ≤ e) (t : Int) : elecPower t n η ≤ e ↔ t ≤ torqueMax e n η := by
  rw [torqueMax_of_nonneg _ _ he, le_floorDiv_iff (by omega)]
  rcases lt_or_ge 0 t with ht | ht
  · rw [elecPower_of_pos η ht hn, ceilDiv_le_iff (by omega)]
    constructor <;> intro h <;> linarith
  · have hpower := elecPower_nonpos hn hη ht
    have hleft : t * (1000 * n) ≤ 0 := mul_nonpos_of_nonpos_of_nonneg ht (by omega)
    have hright : 0 ≤ e * 955 * η := by positivity
    exact iff_of_true (hpower.trans he) (hleft.trans hright)

/-- R15, third line: at or below 0 the lower end is exactly the smallest torque whose power the allowance holds. -/
theorem le_elecPower_iff_torqueMin_le {e : Int} (he : e ≤ 0) (t : Int) : e ≤ elecPower t n η ↔ torqueMin e n η ≤ t := by
  rw [torqueMin_of_nonpos _ _ he, neg_le, le_floorDiv_iff (mul_pos hn hη)]
  rcases lt_or_ge t 0 with ht | ht
  · rw [elecPower_of_neg η ht hn, le_neg, ceilDiv_le_iff (by decide), mul_assoc]
  · have hpower := elecPower_nonneg hn hη ht
    have hleft : -t * (n * η) ≤ 0 := mul_nonpos_of_nonpos_of_nonneg (by omega) (mul_pos hn hη).le
    exact iff_of_true (he.trans hpower) (by omega)

/-- R15, second line: below 0 a torque up to the upper end charges at least as much as the allowance asks. -/
theorem elecPower_le_of_le_torqueMax_of_neg {e t : Int} (he : e < 0) (ht : t ≤ torqueMax e n η) : elecPower t n η ≤ e := by
  have hprod : 0 < n * η := mul_pos hn hη
  rw [torqueMax_of_neg _ _ he, le_neg, ceilDiv_le_iff hprod] at ht
  have hneg : t < 0 := by
    by_contra hnot
    have hleft : -t * (n * η) ≤ 0 := mul_nonpos_of_nonpos_of_nonneg (by omega) hprod.le
    omega
  rw [elecPower_of_neg η hneg hn, neg_le, mul_assoc]
  have hceil := ht.trans (le_ceilDiv_mul (-t * (n * η)) (b := 955000) (by decide))
  exact le_of_mul_le_mul_right hceil (by decide)

/-- R15, fourth line: above 0 a torque from the lower end on draws at least as much as the allowance asks. -/
theorem le_elecPower_of_torqueMin_le_of_pos {e t : Int} (he : 0 < e) (ht : torqueMin e n η ≤ t) : e ≤ elecPower t n η := by
  rw [torqueMin_of_pos _ _ he, ceilDiv_le_iff (by omega)] at ht
  have hasked : 0 < e * 955 * η := by positivity
  have hpos : 0 < t := pos_of_mul_pos_left (hasked.trans_le ht) (by omega)
  rw [elecPower_of_pos η hpos hn]
  have hceil := le_ceilDiv_mul (t * n * 1000) (b := 955 * η) (by omega)
  exact le_of_mul_le_mul_right (a := 955 * η) (by linarith) (by omega)

theorem elecPower_le_of_le_torqueMax {e t : Int} (ht : t ≤ torqueMax e n η) : elecPower t n η ≤ e := by
  rcases lt_or_ge e 0 with he | he
  · exact elecPower_le_of_le_torqueMax_of_neg hn hη he ht
  · exact (elecPower_le_iff_le_torqueMax hn hη he t).2 ht

theorem le_elecPower_of_torqueMin_le {e t : Int} (ht : torqueMin e n η ≤ t) : e ≤ elecPower t n η := by
  rcases lt_or_ge 0 e with he | he
  · exact le_elecPower_of_torqueMin_le_of_pos hn hη he ht
  · exact (le_elecPower_iff_torqueMin_le hn hη he t).2 ht

end

theorem Window.has_closed_iff (lo hi x : Int) : (Window.closed lo hi).has x = true ↔ lo ≤ x ∧ x ≤ hi := by
  simp [Window.closed, Window.has]

/-! ### The inputs of the last run, and what the plan records of it -/

section
variable (cfg : Cfg) (c : Computation)

/-- R56: the pinned run differs from the first in its pin alone. -/
theorem lastInput_eq : lastInput cfg c = { runInput cfg c with pin := (lastInput cfg c).pin } := by
  unfold lastInput; split <;> rfl

theorem lastInput_g : (lastInput cfg c).g = c.work.g := by rw [lastInput_eq]; rfl

theorem lastInput_speeds : (lastInput cfg c).nc = c.work.nc ∧ (lastInput cfg c).v = c.work.v := by
  rw [lastInput_eq]; exact ⟨rfl, rfl⟩

theorem lastInput_efficiencies : (lastInput cfg c).etaA = cfg.etaA ∧ (lastInput cfg c).etaB = cfg.etaB := by
  rw [lastInput_eq]; exact ⟨rfl, rfl⟩

theorem fillPlan_engAxle (p : Plan) : (fillPlan cfg c p).engAxle = axleOf (fillPlan cfg c p).eng c.work.g :=
  congrArg (axleOf _) (lastInput_g cfg c)

theorem fillPlan_mgaAxle (p : Plan) : (fillPlan cfg c p).mgaAxle = axleOf (fillPlan cfg c p).mga c.work.g :=
  congrArg (axleOf _) (lastInput_g cfg c)

theorem fillPlan_power (p : Plan) : (fillPlan cfg c p).power =
    elecPower (fillPlan cfg c p).mga c.work.nc cfg.etaA + elecPower (fillPlan cfg c p).mgb c.work.v cfg.etaB := by
  obtain ⟨hnc, hv⟩ := lastInput_speeds cfg c
  obtain ⟨hetaA, hetaB⟩ := lastInput_efficiencies cfg c
  rw [← hnc, ← hv, ← hetaA, ← hetaB]; rfl

end

/-! ### The working values (R7 to R10) -/

/-- R108: the fields of a slot are read unless it is NEVER or STALE. -/
theorem Slot.live_received {α : Type} (b : Nat) {st : Freshness} (x : α) (h : st ≠ .stale) :
    (Slot.received b st x).live = some x := by
  cases st with
  | fresh => rfl
  | held => rfl
  | stale => exact absurd rfl h

theorem Slot.live_eq_none {α : Type} {s : Slot α} (h : s = .never ∨ ∃ b x, s = .received b .stale x) : s.live = none := by
  obtain rfl | ⟨b, x, rfl⟩ := h <;> rfl

section
variable {cfg : Cfg} {sn : Snapshot}

theorem selectAxleSpeed_of_live {f : BrakeFields} (h : sn.slots.brake.live = some f) : selectAxleSpeed cfg sn = f.axleSpeed := by
  rw [selectAxleSpeed, h]

theorem selectAxleSpeed_of_dead (h : sn.slots.brake.live = none) : selectAxleSpeed cfg sn = cfg.vCap := by
  rw [selectAxleSpeed, h]

theorem selectCrankSpeed_of_live {f : EngineFields} (h : sn.slots.engine.live = some f) :
    selectCrankSpeed cfg sn = f.crankSpeed := by
  rw [selectCrankSpeed, h]

theorem selectCrankSpeed_of_dead (h : sn.slots.engine.live = none) : selectCrankSpeed cfg sn = cfg.nCap := by
  rw [selectCrankSpeed, h]

/-- R9: no demand is read, or the part does not drive: Dc is 0 and nothing is clipped. -/
theorem clampDemand_of_none (h : sn.slots.demand.live = none ∨ sn.gear = some .park ∨ sn.part = .windingDown) :
    clampDemand cfg sn = (0, false) := by
  unfold clampDemand
  cases hd : sn.slots.demand.live with
  | none => rfl
  | some d => exact if_pos (h.resolve_left (by simp [hd]))

/-- R9: a demand that is read while the part drives. -/
theorem clampDemand_of_live {d : Int} (h : sn.slots.demand.live = some d) (hg : sn.gear ≠ some .park)
    (hp : sn.part ≠ .windingDown) : clampDemand cfg sn =
      (clampInt (-6000) cfg.dCeiling d, decide (clampInt (-6000) cfg.dCeiling d ≠ d)) := by
  unfold clampDemand
  rw [h]
  exact if_neg (fun hor => hor.elim hg hp)

end

theorem clampInt_eq_max_min {lo hi : Int} (h : lo ≤ hi) (x : Int) : clampInt lo hi x = max lo (min x hi) := by
  unfold clampInt; split_ifs <;> omega

theorem demandPower_of_zero {dc v : Int} (h : dc = 0 ∨ v = 0) : demandPower dc v = 0 := by
  rw [demandPower, mul_eq_zero.2 h, trunc_zero]

theorem demandPower_nonneg {dc v : Int} (hv : 0 ≤ v) (hd : 0 ≤ dc) : 0 ≤ demandPower dc v :=
  trunc_nonneg (by decide) (mul_nonneg hd hv)

theorem demandPower_nonpos {dc v : Int} (hv : 0 ≤ v) (hd : dc ≤ 0) : demandPower dc v ≤ 0 :=
  trunc_nonpos (by decide) (mul_nonpos_of_nonpos_of_nonneg hd hv)

/-! ### The statements -/

/-- Settles O40: each end of the torque range, whichever line of R15's table gives it, keeps its end of the allowance. -/
theorem torqueRangeKeepsTheAllowance : Obligations.TorqueRangeKeepsTheAllowance := by
  intro n η eLo eHi t hn hlo _ _ ht
  have hη : 0 < η := by omega
  rw [torqueRange_eq _ _ _ hn, Window.has_closed_iff] at ht
  obtain ⟨hmin, hmax⟩ := ht
  exact ⟨le_elecPower_of_torqueMin_le hn hη hmin, elecPower_le_of_le_torqueMax hn hη hmax⟩

/-- Settles O41: the tightness of the first and third lines is the converse half of their equivalences. -/
theorem torqueRangeEnds : Obligations.TorqueRangeEnds := by
  intro n η eLo eHi _ hlo _
  have hη : 0 < η := by omega
  refine ⟨fun hn => if_pos hn, fun hn => ⟨_, _, torqueRange_eq eLo eHi η hn, fun he => ⟨?_, ?_⟩, fun he => ?_,
    fun he => ⟨?_, ?_⟩, fun he => ?_⟩⟩
  · rw [torqueMax_of_nonneg _ _ he, floorDiv_eq_ediv _ (by omega)]
  · rw [← not_le, elecPower_le_iff_le_torqueMax hn hη he]; omega
  · have hprod : 0 < n * η := mul_pos hn hη
    exact ⟨_, torqueMax_of_neg _ _ he, le_ceilDiv_mul _ hprod, ceilDiv_sub_one_mul_lt _ hprod⟩
  · rw [torqueMin_of_nonpos _ _ he, floorDiv_eq_ediv _ (mul_pos hn hη)]
  · rw [← not_le, le_elecPower_iff_torqueMin_le hn hη he]; omega
  · have hspeed : 0 < 1000 * n := by omega
    rw [torqueMin_of_pos _ _ he]
    exact ⟨le_ceilDiv_mul _ hspeed, ceilDiv_sub_one_mul_lt _ hspeed⟩

/-- Settles O42: the bounds at or above 0, carried below 0 by the symmetry of both truncations. -/
theorem crankEquivalentFallsShort : Obligations.CrankEquivalentFallsShort := by
  intro X g hg _
  refine ⟨_, _, rfl, rfl, rfl, ?_⟩
  rcases le_total 0 X with hX | hX
  · obtain ⟨hsign, hshort, hrest⟩ := axleOf_crankOf_bounds (show 0 < g by omega) hX
    omega
  · obtain ⟨hsign, hshort, hrest⟩ := axleOf_crankOf_bounds (show 0 < g by omega) (neg_nonneg.2 hX)
    rw [axleOf_crankOf_neg] at hsign hshort hrest
    omega

/-- Settles O43: truncation toward zero, and the ratio of the computation in whichever run came last. -/
theorem axleContributionIsTruncated : Obligations.AxleContributionIsTruncated := by
  refine ⟨fun c g hg => ⟨rfl, ?_, ?_, fun hc => axleOf_nonneg hg hc.le, fun hc => axleOf_nonpos hg hc.le,
    natAbs_axleOf_le c hg⟩, fun cfg c r => ⟨fillPlan_engAxle cfg c r, fillPlan_mgaAxle cfg c r⟩⟩
  · rintro rfl; exact axleOf_zero_right c
  · rintro rfl; exact axleOf_zero_left g

/-- Settles O44: the two signed lines as ceilings, their monotonicity, and the speeds and efficiencies of the last run. -/
theorem electricalPowerOfAMachine : Obligations.ElectricalPowerOfAMachine := by
  refine ⟨fun n η t _ hlo _ => ?_, fun cfg c r => ⟨_, rfl, fillPlan_power cfg c r⟩⟩
  have hη : 0 < η := by omega
  refine ⟨elecPower_of_zero η, fun ht hn => ?_, fun ht hn => ?_, fun ht hn => ?_, fun u hn h => elecPower_mono hn hη h⟩
  · have hdiv : 0 < 955 * η := by omega
    exact ⟨_, elecPower_of_pos η ht hn, le_ceilDiv_mul _ hdiv, ceilDiv_sub_one_mul_lt _ hdiv⟩
  · exact ⟨_, elecPower_of_neg η ht hn, le_ceilDiv_mul _ (by decide), ceilDiv_sub_one_mul_lt _ (by decide)⟩
  · have hne : elecPower t n η ≠ 0 := by
      rcases lt_or_gt_of_ne ht with ht | ht
      · exact (elecPower_neg hn hη ht).ne
      · exact (elecPower_pos hn hη ht).ne'
    omega

/-- Settles O45: each working value by whether its slot is read (R108). -/
theorem workingValuesComeFromTheSnapshot : Obligations.WorkingValuesComeFromTheSnapshot := by
  intro cfg sn now r
  refine ⟨_, _, _, rfl, rfl, rfl, ?_, ?_, ?_, ?_, ?_, ?_, rfl, demandPower_of_zero,
    fun hv => ⟨fun hd => demandPower_nonneg hv hd.le, fun hd => demandPower_nonpos hv hd.le⟩, rfl⟩
  · intro b st f hslot hst
    exact selectAxleSpeed_of_live (hslot ▸ Slot.live_received b f hst)
  · exact fun h => selectAxleSpeed_of_dead (Slot.live_eq_none h)
  · intro b st f hslot hst
    exact selectCrankSpeed_of_live (hslot ▸ Slot.live_received b f hst)
  · exact fun h => selectCrankSpeed_of_dead (Slot.live_eq_none h)
  · intro h
    have hnone : sn.slots.demand.live = none ∨ sn.gear = some .park ∨ sn.part = .windingDown := by
      rw [← or_assoc] at h
      exact h.imp_left Slot.live_eq_none
    have hclamp := clampDemand_of_none (cfg := cfg) hnone
    exact ⟨congrArg Prod.fst hclamp, congrArg Prod.snd hclamp⟩
  · intro b st d hslot hst hgear hpart
    have hlive : sn.slots.demand.live = some d := hslot ▸ Slot.live_received b d hst
    have hclamp := clampDemand_of_live (cfg := cfg) hlive hgear hpart
    have hdc := congrArg Prod.fst hclamp
    have hclipped := congrArg Prod.snd hclamp
    refine ⟨hdc.trans (clampInt_eq_max_min (by omega) d), ?_⟩
    show (clampDemand cfg sn).2 = true ↔ (clampDemand cfg sn).1 ≠ d
    rw [hdc, hclipped, decide_eq_true_iff]

end Sys2Proof.Machine
end

section
/-! PROOFS. Allocation (spec/04): where a step of a pass leaves the residual, the sign it keeps through a run, and the settlement of a plan. -/

namespace Sys2Proof.Machine

/-! ### The side of 0 on which a pass works (R61, R68) -/

/-- A value on the side of 0 that a pass works on: what is left to raise is at or above 0, what is left to lower at or below it. -/
def Dir.Side (d : Dir) (x : Int) : Prop :=
  match d with
  | .raise => 0 ≤ x
  | .lower => x ≤ 0

theorem Dir.side_zero (d : Dir) : d.Side 0 := by cases d <;> exact le_rfl

theorem Dir.Side.add {d : Dir} {x y : Int} (hx : d.Side x) (hy : d.Side y) : d.Side (x + y) := by
  cases d with
  | raise => exact add_nonneg hx hy
  | lower => exact add_nonpos hx hy

/-- A function that never falls keeps the side on which one argument lies of the other. -/
theorem Dir.Side.sub_of_mono {d : Dir} {f : Int → Int} {t u : Int} (hf : ∀ m n, m ≤ n → f m ≤ f n) (h : d.Side (u - t)) :
    d.Side (f u - f t) := by
  cases d with
  | raise => exact sub_nonneg.2 (hf _ _ (sub_nonneg.1 h))
  | lower => exact sub_nonpos.2 (hf _ _ (sub_nonpos.1 h))

/-! ### The corrected target of a crank source (R62) -/

theorem axleOf_mono {c c' g : Int} (hg : 0 ≤ g) (h : c ≤ c') : axleOf c g ≤ axleOf c' g :=
  Int.tdiv_le_tdiv (by decide) (mul_le_mul_of_nonneg_right h hg)

/-- A crank torque whose exact share reaches `x` contributes at least `x`: the truncation of R11 crosses no whole torque. -/
theorem le_axleOf {c g x : Int} (h : x * 100 ≤ c * g) : x ≤ axleOf c g := by
  have htrunc : (x * 100).tdiv 100 ≤ axleOf c g := Int.tdiv_le_tdiv (by decide) h
  rwa [Int.mul_tdiv_cancel x (by decide)] at htrunc

/-- One newton-metre above the crank equivalent always contributes enough. -/
theorem le_axleOf_crankOf_add_one (x : Int) {g : Int} (hg : 0 < g) : x ≤ axleOf (crankOf x g + 1) g :=
  le_axleOf (Int.lt_tdiv_add_one_mul_self (x * 100) hg).le

/-- One newton-metre below the crank equivalent never contributes too much. -/
theorem axleOf_crankOf_sub_one_le (x : Int) {g : Int} (hg : 0 < g) : axleOf (crankOf x g - 1) g ≤ x := by
  have hneg := le_axleOf_crankOf_add_one (-x) hg
  have hcrank : crankOf (-x) g + 1 = -(crankOf x g - 1) := by rw [crankOf_neg]; ring
  rw [hcrank, axleOf_neg] at hneg
  exact neg_le_neg_iff.1 hneg

/-- R62: with its correction, the target of a crank source does not carry the contribution across X. -/
theorem crankTarget_side (d : Dir) (x : Int) {g : Int} (hg : 0 < g) : d.Side (x - axleOf (crankTarget d x g) g) := by
  cases d with
  | raise =>
    refine sub_nonneg.2 ?_
    simp only [crankTarget]
    split_ifs with hcross
    · exact axleOf_crankOf_sub_one_le x hg
    · exact not_lt.1 hcross
  | lower =>
    refine sub_nonpos.2 ?_
    simp only [crankTarget]
    split_ifs with hcross
    · exact le_axleOf_crankOf_add_one x hg
    · exact not_lt.1 hcross

/-! ### The residual in terms of one source (R61, R62) -/

/-- The axle torque of a source at value `t`: the contribution of R11 for a crank source, the value itself for MGB. -/
def Source.axle (s : Source) (g t : Int) : Int :=
  match s with
  | .eng => axleOf t g
  | .mga => axleOf t g
  | .mgb => t

theorem Source.axle_mono (s : Source) {g : Int} (hg : 0 ≤ g) (t u : Int) (h : t ≤ u) : s.axle g t ≤ s.axle g u := by
  cases s with
  | eng => exact axleOf_mono hg h
  | mga => exact axleOf_mono hg h
  | mgb => exact h

/-- R61 by R62: the residual is X less the axle torque of the source. -/
theorem Run.residual_eq (a : RunInput) (r : Run) (s : Source) :
    r.residual a = neededAxle a r s - s.axle a.g (r.value s) := by
  cases s <;> simp only [Run.residual, neededAxle, Source.axle, Run.value, Run.engAxle, Run.mgaAxle] <;> ring

/-- X does not depend on the source's own value, so a move of that source alone changes only what is taken off it. -/
theorem Run.residual_withValue (a : RunInput) (r : Run) (s : Source) (t : Int) :
    (r.withValue s t).residual a = neededAxle a r s - s.axle a.g t := by
  rw [Run.residual_eq a _ s]; cases s <;> rfl

/-- R61: a source takes its step unless it is a crank source at g of 0. -/
def Source.Turns (s : Source) (g : Int) : Prop := s = .mgb ∨ g ≠ 0

theorem target_side {a : RunInput} (r : Run) (d : Dir) {s : Source} (hg : 0 ≤ a.g) (hs : s.Turns a.g) :
    d.Side (neededAxle a r s - s.axle a.g (target a r d s)) := by
  have hpos : s ≠ .mgb → 0 < a.g := fun hne => lt_of_le_of_ne hg (hs.resolve_left hne).symm
  cases s with
  | eng => exact crankTarget_side d _ (hpos (by decide))
  | mga => exact crankTarget_side d _ (hpos (by decide))
  | mgb => exact (sub_self (neededAxle a r .mgb)).symm ▸ d.side_zero

/-! ### One step, one pass, one run (R66, R68) -/

theorem minHi_some_le (h : Option Int) (x y : Int) : (minHi h (some x)).getD y ≤ x := by
  cases h with
  | none => exact le_rfl
  | some b => exact min_le_right b x

theorem le_maxLo_some (l : Option Int) (x y : Int) : x ≤ (maxLo l (some x)).getD y := by
  cases l with
  | none => exact le_rfl
  | some b => exact le_max_right b x

/-- R66: the new value is the current one, or does not pass the target. -/
theorem pickValue_stops (d : Dir) (cur tgt : Int) (w : Window) :
    pickValue d cur tgt w = cur ∨ d.Side (tgt - pickValue d cur tgt w) := by
  cases d with
  | raise =>
    simp only [pickValue]
    split_ifs
    · exact .inl rfl
    · exact .inl rfl
    · exact .inr (sub_nonneg.2 (minHi_some_le w.hi tgt cur))
  | lower =>
    simp only [pickValue]
    split_ifs
    · exact .inl rfl
    · exact .inl rfl
    · exact .inr (sub_nonpos.2 (le_maxLo_some w.lo tgt cur))

/-- R63: W, the values a source may take at its step. -/
def allowedSet (a : RunInput) (r : Run) (d : Dir) (s : Source) : Window :=
  (ownWindow a s).meet ((powerRange a r s).meet (regenRange a r d s))

theorem stepSource_of_not_turns {a : RunInput} (d : Dir) (r : Run) {s : Source} (hs : ¬ s.Turns a.g) :
    stepSource a d r s = r :=
  if_pos (by simpa [Source.Turns] using hs)

/-- R66: a step moves its own source alone, and the marks do not enter the residual. -/
theorem stepSource_residual {a : RunInput} (d : Dir) (r : Run) {s : Source} (hs : s.Turns a.g) :
    (stepSource a d r s).residual a =
      (r.withValue s (pickValue d (r.value s) (target a r d s) (allowedSet a r d s))).residual a := by
  have hturns : ¬ (s ≠ .mgb ∧ a.g = 0) := fun hskip => hs.elim hskip.1 (· hskip.2)
  rw [stepSource, if_neg hturns]; rfl

/-- R68: the residual after a step is X less the target's axle torque, plus the target's less the new value's. The first is on the side of the pass by the correction of R62, the second because an axle torque never falls as the value rises. -/
theorem stepSource_keeps_side {a : RunInput} (hg : 0 ≤ a.g) (d : Dir) (r : Run) (s : Source) (hr : d.Side (r.residual a)) :
    d.Side ((stepSource a d r s).residual a) := by
  by_cases hs : s.Turns a.g
  · rw [stepSource_residual d r hs, Run.residual_withValue]
    obtain hstay | hstop := pickValue_stops d (r.value s) (target a r d s) (allowedSet a r d s)
    · rwa [hstay, ← Run.residual_eq]
    · have hshort := hstop.sub_of_mono (s.axle_mono hg)
      have hsum := (target_side r d hg hs).add hshort
      rwa [sub_add_sub_cancel] at hsum
  · rwa [stepSource_of_not_turns d r hs]

theorem foldl_stepSource_keeps_side {a : RunInput} (hg : 0 ≤ a.g) (d : Dir) (l : List Source) (r : Run)
    (hr : d.Side (r.residual a)) : d.Side ((l.foldl (stepSource a d) r).residual a) :=
  List.foldlRecOn (motive := fun r => d.Side (r.residual a)) l _ hr fun r hr s _ => stepSource_keeps_side hg d r s hr

/-- R61, R68: only the pass that the residual calls for runs, so the residual stays on whichever side of 0 it began. -/
theorem runPass_keeps_side {a : RunInput} (hg : 0 ≤ a.g) (d : Dir) (r : Run) (hr : d.Side (r.residual a)) :
    d.Side ((runPass a r).residual a) := by
  unfold runPass
  split_ifs with hraise hlower
  · cases d with
    | raise => exact foldl_stepSource_keeps_side hg .raise _ r hr
    | lower => exact absurd hraise (not_lt.2 hr)
  · cases d with
    | raise => exact absurd hlower (not_lt.2 hr)
    | lower => exact foldl_stepSource_keeps_side hg .lower _ r hr
  · exact hr

/-! ### The settlement (R67) -/

section
variable (cfg : Cfg) (c : Computation) (p : Plan)

/-- The residual that the last run leaves, in the plan's own figures. -/
theorem lastRun_residual_eq : (allocate (lastInput cfg c)).residual (lastInput cfg c) =
    (fillPlan cfg c p).dc - (fillPlan cfg c p).engAxle - (fillPlan cfg c p).mgaAxle - (fillPlan cfg c p).mgb := by
  have hdc : (lastInput cfg c).dc = c.work.dc := by rw [lastInput_eq]; rfl
  rw [Run.residual, hdc]; rfl

theorem fillPlan_friction : (fillPlan cfg c p).friction =
    min ((fillPlan cfg c p).dc - (fillPlan cfg c p).engAxle - (fillPlan cfg c p).mgaAxle - (fillPlan cfg c p).mgb) 0 :=
  congrArg frictionOf (lastRun_residual_eq cfg c p)

theorem fillPlan_shortfall : (fillPlan cfg c p).shortfall =
    max ((fillPlan cfg c p).dc - (fillPlan cfg c p).engAxle - (fillPlan cfg c p).mgaAxle - (fillPlan cfg c p).mgb) 0 :=
  congrArg shortfallOf (lastRun_residual_eq cfg c p)

/-- L1 and L2: the lesser and the greater of the residual and 0 add up to the residual, and one of them is 0. -/
theorem fillPlan_balanced : (fillPlan cfg c p).Balanced := by
  have hfriction := fillPlan_friction cfg c p
  have hshortfall := fillPlan_shortfall cfg c p
  refine ⟨?_, ?_, ?_, ?_⟩ <;> omega

end

/-! ### The statements -/

/-- Settles O47: the friction request and the shortfall are the lesser and the greater of the residual and 0. -/
theorem settlementBalancesThePlan : Obligations.SettlementBalancesThePlan := by
  intro cfg c r
  have hfriction := fillPlan_friction cfg c r
  have hshortfall := fillPlan_shortfall cfg c r
  obtain ⟨hsum, hfric, hshort, hone⟩ := fillPlan_balanced cfg c r
  refine ⟨_, _, rfl, rfl, fun hres => ?_, fun hres => ?_, fun hres => ?_, hsum, hfric, hshort, hone,
    fillPlan_engAxle cfg c r, fillPlan_mgaAxle cfg c r⟩
  · rw [hfriction, hshortfall]; exact ⟨min_eq_left hres.le, max_eq_right hres.le⟩
  · rw [hfriction, hshortfall]; exact ⟨min_eq_right hres.le, max_eq_left hres.le⟩
  · rw [hfriction, hshortfall, hres]; exact ⟨min_self 0, max_self 0⟩

/-- Settles O49: the step and the run, each for the raise side and the lower side. -/
theorem passKeepsTheSignOfTheResidual : Obligations.PassKeepsTheSignOfTheResidual := by
  intro a r x hrange
  have hg : 0 ≤ a.g := by omega
  exact ⟨stepSource_keeps_side hg .raise r x, stepSource_keeps_side hg .lower r x,
    runPass_keeps_side hg .raise (baseRun a), runPass_keeps_side hg .lower (baseRun a)⟩

end Sys2Proof.Machine
end

section
/-! PROOFS. The split cycle and its plan buffers (spec/05): release events, the start of a computation by the cycle timer, and the completion of one with each release source. -/

namespace Sys2Proof.Machine

/-! ### Release (R88 to R90) -/

/-- R116: what a channel builds rests on the channels, the Negotiator's state and the confirmed zone alone. -/
theorem State.builtFrom_congr {s t : State} (hcu : t.cu = s.cu) (hen : t.en.state = s.en.state) (hti : t.ti.zone = s.ti.zone)
    (c : Chan) (x : Int) : t.builtFrom c x = s.builtFrom c x := by
  simp only [State.builtFrom, hcu, State.request_congr hen hti]

/-- R90: the grouped sends change the queue alone. -/
theorem State.sendGrouped_eq (s : State) : s.sendGrouped = s.withBi { s.bi with queue := s.sendGrouped.bi.queue } := by
  unfold State.sendGrouped
  split
  · exact s.buildAll_eq _ _
  · rfl

/-- R90: what the grouped sends leave waiting where there is a front plan. -/
theorem State.sendGrouped_get {s : State} {p : Plan} (h : s.cs.front = some p) (c : Chan) : s.sendGrouped.bi.queue.get c =
    if s.cfg.chanMode.get c = .grouped then some (s.builtFrom c (p.value c)) else s.bi.queue.get c := by
  unfold State.sendGrouped; rw [h]; exact s.buildAll_get _ _ c

/-- R90: without a front plan no channel sends. -/
theorem State.sendGrouped_of_none {s : State} (h : s.cs.front = none) : s.sendGrouped = s := by
  unfold State.sendGrouped; rw [h]

/-- R89: a release event is its effect on the Scheduler and on Start-up Control, and the grouped sends from the front plan it leaves. -/
theorem State.releaseEvent_sends (s : State) :
    s.releaseEvent = ((s.withCs s.releaseEvent.cs).sendGrouped).withSu s.releaseEvent.su := by
  rcases s.releaseEvent_cases with ⟨p, -, -, h⟩ | ⟨-, h⟩ <;> rw [h]
  · rw [State.releaseReport_eq]; simp
  · simp only [State.sendGrouped_frame]
    exact congrArg s.sendGrouped.withSu s.sendGrouped_frame.2.2.2.1

/-- R89, R178: a swap, and its report. -/
theorem State.releaseEvent_swaps {s : State} {p : Plan} (hb : s.cs.back = .complete p) (hi : s.cs.inflight = none) :
    s.releaseEvent.cs = { s.cs with front := some p, back := .empty } ∧ s.releaseEvent.su = s.su.afterRelease p := by
  unfold State.releaseEvent; rw [hb, hi]; simp only [State.releaseReport_eq]; simp

/-- R89: without a COMPLETE back plan, or with a computation in flight, nothing is swapped. -/
theorem State.releaseEvent_keeps {s : State} (h : s.cs.inflight.isSome = true ∨ ∀ p, s.cs.back ≠ .complete p) :
    s.releaseEvent.cs = s.cs ∧ s.releaseEvent.su = s.su := by
  rcases s.releaseEvent_cases with ⟨p, hb, hi, -⟩ | ⟨-, he⟩
  · rcases h with h | h
    · rw [hi] at h; cases h
    · exact absurd hb (h p)
  · rw [he]; simp

/-- R90: what a release event leaves waiting, by the front plan it leaves. -/
theorem State.releaseEvent_get {s : State} {p : Plan} (h : s.releaseEvent.cs.front = some p) (c : Chan) :
    s.releaseEvent.bi.queue.get c = if s.cfg.chanMode.get c = .grouped then some (s.builtFrom c (p.value c)) else s.bi.queue.get c := by
  rw [State.releaseEvent_sends]; exact State.sendGrouped_get (s := s.withCs s.releaseEvent.cs) h c

/-- R90: a release event that leaves no front plan sends nothing. -/
theorem State.releaseEvent_queue_of_none {s : State} (h : s.releaseEvent.cs.front = none) : s.releaseEvent.bi.queue = s.bi.queue := by
  rw [State.releaseEvent_sends, State.sendGrouped_of_none (s := s.withCs s.releaseEvent.cs) h]; rfl

/-- R89: a release event changes the Scheduler, the mark and the queue alone. -/
theorem State.releaseEvent_eq (s : State) : s.releaseEvent =
    { s with su := s.releaseEvent.su, cs := s.releaseEvent.cs, bi := { s.bi with queue := s.releaseEvent.bi.queue } } := by
  have hq : s.releaseEvent.bi.queue = (s.withCs s.releaseEvent.cs).sendGrouped.bi.queue := congrArg (·.bi.queue) s.releaseEvent_sends
  rw [hq]
  exact s.releaseEvent_sends.trans (congrArg (State.withSu · _) (State.sendGrouped_eq _))

/-! ### The line RELEASE (R87, R88) -/

theorem edgeSelected_iff (e : ReleaseEdge) (level : Bool) : edgeSelected e level = true ↔ SelectedEdge e level := by
  cases e <;> simp [edgeSelected, SelectedEdge]

/-- R88: a level that is no change releases nothing. -/
theorem State.releaseLevel_of_same {s : State} {level : Bool} (h : s.cs.lastRelease = level) : s.releaseLevel level = s := if_pos h

/-- R88: a selected edge is a release event. -/
theorem State.releaseLevel_of_selected {s : State} {level : Bool} (h : s.cs.lastRelease ≠ level)
    (hs : SelectedEdge s.cfg.releaseEdge level) :
    s.releaseLevel level = (s.withCs { s.cs with lastRelease := level }).releaseEvent.checkSleep := by
  rw [State.releaseLevel, if_neg h]; exact if_pos ((edgeSelected_iff _ _).2 hs)

/-- R88: an edge of the other kind moves the last level alone. -/
theorem State.releaseLevel_of_not_selected {s : State} {level : Bool} (hs : ¬ SelectedEdge s.cfg.releaseEdge level) :
    s.releaseLevel level = s.withCs { s.cs with lastRelease := level } := by
  by_cases h : s.cs.lastRelease = level
  · rw [State.releaseLevel_of_same h, ← h]; rfl
  · rw [State.releaseLevel, if_neg h]; exact if_neg (mt (edgeSelected_iff _ _).1 hs)

/-- R88: with release source LINE a working part watches the line. -/
theorem execReleaseEdge_of_line {s : State} (level : Bool) (hw : AtWork s) (hl : s.cfg.releaseSource = .line) :
    execReleaseEdge level s = .next ((s.withPins { s.pins with release := level }).releaseLevel level) := by
  rcases hw with hw | hw <;> simp only [execReleaseEdge, hw, hl]

/-- R88: the part with the line and the last level at this level. -/
def State.withLevel (s : State) (level : Bool) : State :=
  { s with pins := { s.pins with release := level }, cs := { s.cs with lastRelease := level } }

/-- R88, R89, R178: a selected edge at a working part is a release event with the level moved, and the sleep check after it. -/
theorem execReleaseEdge_of_selected {s : State} {level : Bool} (hw : AtWork s) (hl : s.cfg.releaseSource = .line)
    (hne : s.cs.lastRelease ≠ level) (hsel : SelectedEdge s.cfg.releaseEdge level) :
    execReleaseEdge level s = .next (s.withLevel level).releaseEvent.checkSleep :=
  (execReleaseEdge_of_line level hw hl).trans (congrArg Host.Outcome.next (State.releaseLevel_of_selected hne hsel))

/-- R88: an edge of the other kind at a working part moves the level alone. -/
theorem execReleaseEdge_of_not_selected {s : State} {level : Bool} (hw : AtWork s) (hl : s.cfg.releaseSource = .line)
    (hsel : ¬ SelectedEdge s.cfg.releaseEdge level) : execReleaseEdge level s = .next (s.withLevel level) :=
  (execReleaseEdge_of_line level hw hl).trans (congrArg Host.Outcome.next (State.releaseLevel_of_not_selected hsel))

/-- R87, R88: with release source PLAN, in LOADING and in SLEEP the line is not watched. -/
theorem execReleaseEdge_of_unwatched {s : State} (level : Bool)
    (h : s.cfg.releaseSource = .plan ∨ s.su.part = .loading ∨ s.su.part = .sleep) :
    execReleaseEdge level s = .next (s.withPins { s.pins with release := level }) := by
  rcases h with h | h | h <;> simp only [execReleaseEdge, h]
  cases s.su.part <;> rfl

/-- Settles O16: a selected edge is a release event on the part whose last level has moved, with the sleep check behind it. -/
theorem releaseEdgeSendsTheFrontPlan : Obligations.ReleaseEdgeSendsTheFrontPlan := by
  refine ⟨fun s level hw hl hne hsel => ?_, fun s level => ⟨fun hw hl hsel => ?_, fun hw hl he => ?_, execReleaseEdge_of_unwatched level⟩⟩
  · exact ⟨_, (s.withLevel level).releaseEvent, execReleaseEdge_of_selected hw hl hne hsel, State.checkSleep_settles _,
      fun _ => State.releaseEvent_swaps (s := s.withLevel level), State.releaseEvent_keeps (s := s.withLevel level),
      fun _ => State.releaseEvent_get, State.releaseEvent_queue_of_none, State.releaseEvent_eq _⟩
  · exact execReleaseEdge_of_not_selected hw hl hsel
  · exact (execReleaseEdge_of_line level hw hl).trans (congrArg Host.Outcome.next (State.releaseLevel_of_same he))

/-- R178: in WINDING_DOWN the release of three zero commands sets the mark. -/
theorem Startup.afterRelease_of_zero {su : Startup} {p : Plan} (hw : su.part = .windingDown) (he : p.eng = 0) (ha : p.mga = 0)
    (hb : p.mgb = 0) : su.afterRelease p = { su with zeroRelease := true } := if_pos ⟨hw, he, ha, hb⟩

/-- Settles O13: the swap of O16 sets the mark, and whether a sleep is then due rests on the Negotiator's state. -/
theorem zeroReleaseEndsWindingDown : Obligations.ZeroReleaseEndsWindingDown := by
  intro s p level hw hl hne hsel hb hi he ha hg
  obtain ⟨t, u, hx, ⟨hsleep, hstay⟩, hswap, -, -, -, hu⟩ := releaseEdgeSendsTheFrontPlan.1 s level (.inr hw) hl hne hsel
  obtain ⟨hcs, hsu⟩ := hswap p hb hi
  rw [Startup.afterRelease_of_zero hw he ha hg] at hsu
  have hen : u.en = s.en := by rw [hu]
  have hdue : SleepDue u ↔ (s.en.state = .stopped ∨ s.en.state = .unknown ∨ s.en.state = .lockedOut) := by
    simp [SleepDue, hsu, hen, hw]
  refine ⟨t, hx, fun hn => ?_, fun hn => ?_⟩
  · have hasleep := hsleep (hdue.2 hn)
    exact ⟨hasleep.part.1, hasleep.queue.1, hasleep.plans.2, hasleep.plans.1⟩
  · obtain rfl := hstay (mt hdue.1 hn)
    exact ⟨hsu, by rw [hcs], by rw [hcs]⟩

/-! ### The cycle timer (R80, R81) -/

/-- R80: an expiry that is due stops the timer and requests a start. -/
theorem execCycleTimerExpiry_of_due {s : State} {d : Nat} (ht : s.cs.timer = some d) (hd : d ≤ s.now) :
    execCycleTimerExpiry s = .next ((s.withCs { s.cs with timer := none }).startRequest .timer) :=
  if_pos ((timerDue_iff _ _).2 ⟨d, ht, hd⟩)

/-- R81, R82: a working part with nothing in flight starts a computation at a request. -/
theorem State.startRequest_of_idle {s : State} (t : Trigger) (hw : AtWork s) (hi : s.cs.inflight = none) :
    s.startRequest t = s.startComputation t := by
  simpa [(State.working_iff s).2 hw, hi] using s.startRequest_cases t

/-- R81: behind a computation in flight a request waits, and behind a pending start it sets the OVERRUN mark. -/
theorem State.startRequest_of_inflight {s : State} (t : Trigger) (hw : AtWork s) (hi : s.cs.inflight.isSome = true) :
    s.startRequest t = s.withCs { s.cs with
      pendingStart := some (s.cs.pendingStart.elim t (mergeTrigger · t))
      overrun := s.cs.overrun || s.cs.pendingStart.isSome } := by
  have hsome : s.cs.inflight ≠ none := Option.isSome_iff_ne_none.1 hi
  cases hp : s.cs.pendingStart <;> simpa [(State.working_iff s).2 hw, hsome, hi, hp] using s.startRequest_cases t

/-- R81: a TIMER request leaves the trigger of a pending start. -/
theorem elim_mergeTrigger_timer (held : Option Trigger) : held.elim .timer (mergeTrigger · .timer) = held.getD .timer := by
  cases held <;> rfl

/-- R82: a start sets the timer anew, whatever it held. -/
theorem State.startComputation_of_timer (s : State) (x : Option Nat) (t : Trigger) :
    (s.withCs { s.cs with timer := x }).startComputation t = s.startComputation t := rfl

/-- Settles O25: the request made at the expiry starts a computation, or waits behind the one in flight. -/
theorem cycleTimerStartsComputation : Obligations.CycleTimerStartsComputation := by
  refine ⟨fun s d hw ht hd hi => ?_, fun s d hw ht hd hi => ?_⟩
  · have hx : execCycleTimerExpiry s = .next (s.startComputation .timer) := by
      rw [execCycleTimerExpiry_of_due ht hd, State.startRequest_of_idle (s := s.withCs { s.cs with timer := none }) _ hw hi,
        State.startComputation_of_timer]
    exact ⟨_, _, _, hx, s.startComputation_starts .timer, rfl, State.faultLine_raise _ _ rfl⟩
  · refine (execCycleTimerExpiry_of_due ht hd).trans (congrArg _ ?_)
    rw [State.startRequest_of_inflight (s := s.withCs { s.cs with timer := none }) _ hw hi, elim_mergeTrigger_timer]; rfl

/-! ### Completion (R85) -/

/-- R30: after the two updates, a machine whose window the plan does not mark has no CONFLICT listed. -/
theorem not_listed_of_conflictAfter {x y : MachineId} {marked : Bool} {now : Nat} {a b : FaultMon} (hxy : x ≠ y)
    (h : EitherOrder (conflictAfter x false now) (conflictAfter y marked now) a b) : b.listed (.conflict x) = false := by
  have hself (m : FaultMon) : (conflictAfter x false now m).listed (.conflict x) = false := m.listed_remove_self _
  have hother (m : FaultMon) : (conflictAfter y marked now m).listed (.conflict x) = m.listed (.conflict x) := by
    have hne : FaultId.conflict x ≠ .conflict y := fun h => hxy (FaultId.conflict.inj h)
    cases marked
    · exact m.listed_remove_of_ne hne
    · exact m.listed_raise_of_ne now hne
  rcases h with rfl | rfl
  · rw [hother, hself]
  · exact hself _

/-- R30, R85: a completion leaves no CONFLICT of a machine whose window its plan does not mark. -/
theorem Reported.conflict_removed {s u : State} {c : Computation} {p : Plan} (h : Reported s c p u) :
    (p.marks.mga = false → u.fm.listed (.conflict .mga) = false) ∧ (p.marks.mgb = false → u.fm.listed (.conflict .mgb) = false) := by
  obtain ⟨m, st, horder, -, -, -, hfm⟩ := h.status
  have hlisted (f : FaultId) : u.fm.listed f = m.listed f := by rw [hfm]; rfl
  simp only [hlisted]
  refine ⟨fun hmark => ?_, fun hmark => ?_⟩ <;> rw [hmark] at horder
  · exact not_listed_of_conflictAfter (by decide) horder
  · exact not_listed_of_conflictAfter (by decide) horder.symm

/-- R82, R85: a pending start taken at a completion leaves the front plan, and its own plan has the flag PLAN_DROPPED where the plan just completed was not released. -/
theorem TakesPending.starts {s t : State} {tr : Trigger} (h : TakesPending s t) (hs : s.cs.pendingStart = some tr) :
    t.cs.front = s.cs.front ∧ ∃ q, t.cs.back = .computing q ∧ (q.flags.planDropped = true ↔ ∃ p, s.cs.back = .complete p) := by
  obtain ⟨c, q, hstart⟩ := h.2 tr hs
  rw [hstart.state]
  exact ⟨rfl, q, rfl, hstart.flags.2.2⟩

/-- R85: a completion fills and reports the plan, and goes on by the release source. -/
theorem execComputationComplete_reports {s : State} {c : Computation} {r : Plan} (hi : s.cs.inflight = some c)
    (hb : s.cs.back = .computing r) :
    ∃ u, execComputationComplete s = .next u.afterPlan ∧ Reported s c (fillPlan s.cfg c r) u :=
  ⟨_, by simp only [execComputationComplete, hi, State.completeComputation, hb, BackPlan.record], s.finishPlan_reported c _⟩

/-- R85: with release source LINE a completion goes on to the pending start. -/
theorem State.afterPlan_of_line {s : State} (h : s.cfg.releaseSource = .line) : s.afterPlan = s.takePending := by
  rw [State.afterPlan, h]

/-- R85, R94: with release source PLAN a completion is a release event. -/
theorem State.afterPlan_of_plan {s : State} (h : s.cfg.releaseSource = .plan) :
    s.afterPlan = (s.releaseEvent.checkSleep).takePending := by
  rw [State.afterPlan, h]

/-- Settles O26: the plan is reported, and stays in the back buffer until a pending start drops it. -/
theorem completionReportsThePlan : Obligations.CompletionReportsThePlan := by
  intro s c r hi hb hl
  obtain ⟨u, hx, hrep⟩ := execComputationComplete_reports hi hb
  have hline : u.afterPlan = u.takePending := State.afterPlan_of_line (by rw [hrep.rest]; exact hl)
  have hpend : u.cs.pendingStart = s.cs.pendingStart := by rw [hrep.back]
  have htake := u.takePending_takes
  refine ⟨_, _, u, hx.trans (congrArg _ hline), rfl, rfl, rfl, rfl, hrep, htake, fun tr htr => ?_,
    hrep.conflict_removed.1, hrep.conflict_removed.2, ?_, ?_, ?_, fun hn => ?_⟩
  · obtain ⟨hfront, q, hback, hdropped⟩ := htake.starts (hpend.trans htr)
    exact ⟨q, hback, hdropped.2 ⟨_, by rw [hrep.back]⟩, hfront.trans (by rw [hrep.back])⟩
  · simp only [State.takePending_frame]; rw [hrep.rest]
  · simp only [State.takePending_frame]; rw [hrep.rest]
  · simp only [State.takePending_frame]; rw [hrep.rest]
  · rw [htake.1 (hpend.trans hn), hrep.rest]

/-- R85, R89: a part whose back plan is EMPTY drops no plan at a pending start. -/
theorem TakesPending.drops_nothing {s t : State} (h : TakesPending s t) (hb : s.cs.back = .empty) {q : Plan}
    (hq : t.cs.back = .computing q) : q.flags.planDropped = false := by
  cases hp : s.cs.pendingStart with
  | none => rw [h.1 hp, hb] at hq; cases hq
  | some tr =>
    obtain ⟨-, q', hq', hdropped⟩ := h.starts hp
    obtain rfl : q = q' := BackPlan.computing.inj (hq.symm.trans hq')
    rw [← Bool.not_eq_true, hdropped, hb]
    rintro ⟨p, hc⟩; cases hc

/-- R179: a sleep leaves no plan in the back buffer. -/
theorem SettlesTo.back_empty {u t : State} (h : SettlesTo u t) (hb : u.cs.back = .empty) : t.cs.back = .empty := by
  by_cases hdue : SleepDue u
  · exact (h.1 hdue).plans.1
  · rw [h.2 hdue, hb]

/-- R91, R85, R90: a plan released at its completion has every channel build from it: the solo channels with the report, the grouped ones at the release. -/
theorem Reported.released_get {s u : State} {c : Computation} {p : Plan} (h : Reported s c p u)
    (hf : u.releaseEvent.cs.front = some p) (ch : Chan) :
    u.releaseEvent.bi.queue.get ch = some (u.releaseEvent.builtFrom ch (p.value ch)) := by
  have hcfg : u.cfg = s.cfg := by rw [h.rest]
  have hbuilt : u.releaseEvent.builtFrom ch (p.value ch) = u.builtFrom ch (p.value ch) :=
    State.builtFrom_congr (by simp) (by simp) (by simp) ch _
  rw [State.releaseEvent_get hf ch, hbuilt, hcfg]
  cases hm : s.cfg.chanMode.get ch
  · exact if_pos rfl
  · exact h.solo ch hm

/-- Settles O27: the release event after the report swaps the plan to the front, so that nothing is left for a pending start to drop. -/
theorem completionReleasesThePlan : Obligations.CompletionReleasesThePlan := by
  intro s c r hi hb hl
  obtain ⟨u, hx, hrep⟩ := execComputationComplete_reports hi hb
  have hplan : u.afterPlan = (u.releaseEvent.checkSleep).takePending := State.afterPlan_of_plan (by rw [hrep.rest]; exact hl)
  have hsu : u.su = s.su := by rw [hrep.rest]
  obtain ⟨hcs, hmark⟩ := State.releaseEvent_swaps (s := u) (p := fillPlan s.cfg c r) (by rw [hrep.back]) (by rw [hrep.back])
  have hsettle := u.releaseEvent.checkSleep_settles
  have htake := u.releaseEvent.checkSleep.takePending_takes
  refine ⟨_, _, u, u.releaseEvent, _, hx.trans (congrArg _ hplan), rfl, hrep, ?_, hrep.released_get (by rw [hcs]), hsettle, htake,
    fun q => htake.drops_nothing (hsettle.back_empty (by rw [hcs]))⟩
  rw [← hcs, ← hsu, ← hmark]; exact u.releaseEvent_eq

end Sys2Proof.Machine
end

section
/-! PROOFS. The echo handshake (spec/07): what giving up the oldest entry does to the faults and to the waiting telegram, and the expiry of the echo deadline. -/

namespace Sys2Proof.Machine

/-! ### The rebuild at entry to LOST (R117) -/

theorem State.rebuildLost_of_none {s : State} {c : Chan} (h : s.bi.queue.get c = none) : s.rebuildLost c = s := by
  simp only [State.rebuildLost, h]

theorem State.rebuildLost_eq (s : State) (c : Chan) : s.rebuildLost c = s.withBi { s.bi with queue := (s.rebuildLost c).bi.queue } := by
  unfold State.rebuildLost; split <;> rfl

/-! ### Giving up the oldest entry (R121, R127) -/

section
variable {s : State} {c : Chan}

theorem State.expireOldest_of_lost (h : (s.cu.get c).hs = .lost) :
    (s.expireOldest c).fm = s.fm.raise (.channelLost c) s.now ∧ (s.expireOldest c).bi = s.bi := by
  unfold State.expireOldest; simp only [h]; exact ⟨rfl, rfl⟩

/-- R127: an expiry short of the last one raises CHANNEL_RECOVERY, at entry to RECOVERY and again in it. -/
theorem State.expireOldest_of_retrying (h : (s.cu.get c).hs = .active ∨ (s.cu.get c).hs = .recovery)
    (hr : (s.cu.get c).retry + 1 < s.cfg.nRetry) :
    (s.expireOldest c).fm = s.fm.raise (.channelRecovery c) s.now ∧ (s.expireOldest c).bi = s.bi := by
  unfold State.expireOldest
  rcases h with h | h <;> (simp only [h, if_neg (Nat.not_le.2 hr)]; exact ⟨rfl, rfl⟩)

/-- R117, R127: the last expiry ends CHANNEL_RECOVERY, raises CHANNEL_LOST and rebuilds the waiting telegram. -/
theorem State.expireOldest_of_exhausted (h : (s.cu.get c).hs = .active ∨ (s.cu.get c).hs = .recovery)
    (hr : s.cfg.nRetry ≤ (s.cu.get c).retry + 1) :
    (s.expireOldest c).fm =
      (if (s.cu.get c).hs = .recovery then s.fm.remove (.channelRecovery c) else s.fm).raise (.channelLost c) s.now ∧
    (s.expireOldest c).bi = (s.rebuildLost c).bi := by
  have rebuilt (t : State) (hbi : t.bi = s.bi) (hreq : t.request = s.request) : (t.rebuildLost c).bi = (s.rebuildLost c).bi := by
    simp only [State.rebuildLost, State.requestFor, hbi, hreq]
    split
    · exact hbi
    · simp only [State.withWaiting_bi, hbi]
  unfold State.expireOldest
  rcases h with h | h <;> simp only [h, if_pos hr, State.rebuildLost_frame, reduceCtorEq, if_true, if_false]
  · exact ⟨rfl, rebuilt _ rfl rfl⟩
  · exact ⟨rfl, rebuilt _ rfl rfl⟩

end

/-- R117: giving up an entry leaves the Bus Interface as it is, but for the rebuild at entry to LOST. -/
theorem State.expireOldest_bi (s : State) (c : Chan) :
    (s.expireOldest c).bi = s.bi ∨ (s.expireOldest c).bi = (s.rebuildLost c).bi := by
  have trying (h : (s.cu.get c).hs = .active ∨ (s.cu.get c).hs = .recovery) :
      (s.expireOldest c).bi = s.bi ∨ (s.expireOldest c).bi = (s.rebuildLost c).bi :=
    (Nat.lt_or_ge _ _).imp (fun hr => (expireOldest_of_retrying h hr).2) (fun hr => (expireOldest_of_exhausted h hr).2)
  cases h : (s.cu.get c).hs with
  | idle => left; simp [State.expireOldest, h]
  | lost => exact .inl (expireOldest_of_lost h).2
  | active => exact trying (.inl h)
  | recovery => exact trying (.inr h)

theorem State.expireOldest_eq (s : State) (c : Chan) : s.expireOldest c = { s with
    cu := (s.expireOldest c).cu, fm := (s.expireOldest c).fm, bi := { s.bi with queue := (s.expireOldest c).bi.queue } } := by
  have hbi : (s.expireOldest c).bi = { s.bi with queue := (s.expireOldest c).bi.queue } := by
    rcases s.expireOldest_bi c with h | h
    · rw [h]
    · rw [h, s.rebuildLost_eq c]; rfl
  have hframe := s.expireOldest_frame c
  generalize s.expireOldest c = t at hbi hframe
  obtain ⟨hnow, hpins, hcfg, hsu, hti, hcs, heb, hms, hen, hfree, hpending⟩ := hframe
  rw [← hbi, ← hnow, ← hpins, ← hcfg, ← hsu, ← hti, ← hcs, ← heb, ← hms, ← hen, ← hfree, ← hpending]

theorem State.expireOldest_shut (s : State) (c : Chan) : ((s.expireOldest c).cu.get c).shut = (s.cu.get c).shut := by
  by_cases h : (s.cu.get c).hs = .idle
  · simp [State.expireOldest, h, State.withChan_get]
  · rw [State.expireOldest_get s c h]

/-- R121: giving up an entry touches no waiting telegram of another channel. -/
theorem State.expireOldest_waiting_of_ne (s : State) {c d : Chan} (h : d ≠ c) :
    (s.expireOldest c).bi.queue.get d = s.bi.queue.get d := by
  rcases s.expireOldest_bi c with hbi | hbi
  · rw [hbi]
  · rw [hbi, State.rebuildLost_get, if_neg h]

/-! ### The expiry of the deadline (R120, R121) -/

/-- R120: the new oldest entry being not yet due, an expiry gives up one entry alone. -/
theorem State.expireDeadline_of_notYetDue {s : State} {c : Chan} (h : NotYetDue s (s.cu.get c).list.tail) :
    s.expireDeadline c = (s.expireOldest c).formDeadline c :=
  State.freshDeadline_of_notYetDue _ c (by simpa [NotYetDue, State.expireOldest_list] using h)

theorem execEchoDeadlineExpiry_of_due {c : Chan} {s : State} {d : Nat} (ht : (s.cu.get c).deadline = some d) (hd : d ≤ s.now) :
    execEchoDeadlineExpiry c s = .next (s.expireDeadline c) :=
  if_pos ((timerDue_iff _ _).2 ⟨d, ht, hd⟩)

theorem State.faultLine_of_mem {s : State} {f : FaultId} (h : f ∈ s.fm.degrading) : s.faultLine = true := by
  simpa [State.faultLine] using List.ne_nil_of_mem h

/-- R127: CHANNEL_LOST asserts FAULT. -/
theorem FaultMon.channelLost_mem_degrading (m : FaultMon) (c : Chan) (t : Nat) :
    .channelLost c ∈ (m.raise (.channelLost c) t).degrading :=
  (m.mem_degrading_raise ..).2 (.inr ⟨rfl, rfl⟩)

/-- Settles O35: the expiry is `expireOldest` with the deadline formed afresh, so each clause is read off the entry given up. -/
theorem echoDeadlineGivesUpTheOldest : Obligations.EchoDeadlineGivesUpTheOldest := by
  intro s c d e rest ht hd hl hdue
  have hx : s.expireDeadline c = (s.expireOldest c).formDeadline c :=
    State.expireDeadline_of_notYetDue (by rwa [hl])
  have hfm : (s.expireDeadline c).fm = (s.expireOldest c).fm := by rw [hx]; rfl
  have hbi : (s.expireDeadline c).bi = (s.expireOldest c).bi := by rw [hx]; rfl
  have hother (c' : Chan) (h : c' ≠ c) : (s.expireDeadline c).cu.get c' = s.cu.get c' := by
    rw [hx, State.formDeadline_get, if_neg h, State.expireOldest_get_of_ne s h]
  have hch : (s.expireDeadline c).cu.get c = { (s.expireOldest c).cu.get c with
      deadline := rest.head?.map (fun x => x.time + s.cfg.echoTimeout) } := by
    rw [hx, State.formDeadline_get, if_pos rfl, State.expireOldest_list, hl, (s.expireOldest_frame c).2.2.1]; rfl
  refine ⟨_, execEchoDeadlineExpiry_of_due ht hd, fun c' h => ⟨hother c' h, ?_⟩, ?_, ?_, ?_, ?_, fun hlost => ?_, fun htry => ?_⟩
  · rw [hbi, State.expireOldest_waiting_of_ne s h]
  · rw [hx, State.expireOldest_eq]; rfl
  · rw [hch]; simp [State.expireOldest_list, hl]
  · rw [hch]; exact s.expireOldest_shut c
  · rw [hch]
  · obtain ⟨hf, hb⟩ := State.expireOldest_of_lost hlost
    rw [hch, State.expireOldest_get s c (by simp [hlost]), hfm, hbi]
    simp [hlost, hf, hb]
  · have hidle : (s.cu.get c).hs ≠ .idle := by rcases htry with h | h <;> simp [h]
    have hlost : (s.cu.get c).hs ≠ .lost := by rcases htry with h | h <;> simp [h]
    rw [hch, State.expireOldest_get s c hidle, hfm, hbi]
    refine ⟨by simp [hlost], by simp [hlost], fun hr => ?_, fun hr => ?_⟩
    · obtain ⟨hf, hb⟩ := State.expireOldest_of_retrying htry hr
      exact ⟨by simp [hlost, Nat.not_le.2 hr], hf, hb⟩
    · obtain ⟨hf, hb⟩ := State.expireOldest_of_exhausted htry hr
      have hmem : .channelLost c ∈ (s.expireOldest c).fm.degrading := hf ▸ FaultMon.channelLost_mem_degrading ..
      refine ⟨by simp [hr], hmem, State.faultLine_of_mem (hfm ▸ hmem), fun hrec => ?_, fun hq => ?_, fun sp hq => ?_⟩
      · rw [hf, if_pos hrec, FaultMon.listed_raise_of_ne _ _ (by simp), FaultMon.listed_remove_self]
      · rw [hb, State.rebuildLost_of_none hq]
      · rw [hb, State.rebuildLost_get, if_pos rfl, hq]; rfl

end Sys2Proof.Machine
end

section
/-! PROOFS. Engine start and stop negotiation (spec/08): what a failed start leaves, below the third and at it, and the expiry of the ack timer and of the start timer. -/

namespace Sys2Proof.Machine

/-! ### The request of a waiting ENG telegram (R136, R117) -/

/-- R136, R117: where the request supplied is no longer the old one, the waiting ENG telegram carries the new one, whatever it carried. -/
theorem State.syncRequest_eng_of_changed {s : State} {old : Request} (h : s.request ≠ old) :
    ∀ sp ∈ (s.syncRequest old).bi.queue.eng, sp.request = s.request := by
  rw [State.syncRequest_eq]
  intro sp hsp
  obtain ⟨_, _, rfl⟩ := Option.map_eq_some_iff.1 hsp
  exact if_neg h

theorem State.request_of_cranking {s : State} (h : s.en.state = .cranking) : s.request = .none := by
  simp only [State.request, h]

/-! ### Failed starts and lockout (R142) -/

section
variable {s : State}

theorem State.failedStart_of_lt (next : State → State) (h : s.en.failed + 1 < 3) : s.failedStart next = next s.countFailure := by
  rw [State.failedStart_eq, if_neg (Nat.not_le.2 h)]

theorem State.failedStart_of_third (next : State → State) (h : s.en.failed + 1 = 3) : s.failedStart next = s.countFailure.lockOut := by
  rw [State.failedStart_eq, if_pos h.ge]

/-- R142, R169: the third failure stops every timer, raises both faults and asserts FAULT, wherever the start would have led and whatever request was supplied before. -/
theorem State.failedStart_locksOut (next : State → State) (old : Request) (h : s.en.failed + 1 = 3) :
    ((s.failedStart next).syncRequest old).en =
      { s.en with state := .lockedOut, failed := 3, ack := none, start := none, stop := none, hold := none } ∧
    ((s.failedStart next).syncRequest old).fm = (s.fm.raise .startFailed s.now).raise .engineLockedOut s.now ∧
    ((s.failedStart next).syncRequest old).faultLine = true := by
  rw [State.failedStart_of_third next h, State.syncRequest_eq, ← h]
  exact ⟨rfl, rfl, State.faultLine_raise _ .engineLockedOut rfl⟩

end

/-! ### The expiry of the two timers (R139, R141) -/

section
variable {s : State} {d : Nat}

theorem execAckTimerExpiry_of_due (hs : s.en.state = .startPending) (ht : s.en.ack = some d) (hd : d ≤ s.now) :
    execAckTimerExpiry s = .next ((s.stopAck.failedStart State.enterStopped).syncRequest s.request).checkSleep :=
  if_pos ⟨hs, (timerDue_iff _ _).2 ⟨d, ht, hd⟩⟩

theorem execStartTimerExpiry_of_due (hs : s.en.state = .cranking) (ht : s.en.start = some d) (hd : d ≤ s.now) :
    execStartTimerExpiry s = .next ((s.stopStart.failedStart State.enterStopPending).syncRequest s.request).checkSleep :=
  if_pos ⟨hs, (timerDue_iff _ _).2 ⟨d, ht, hd⟩⟩

end

/-- Settles O36: either expiry is a failed start followed by the sleep check; below the third failure the clauses are read off the state it leads to, and the third locks out alike from both timers. -/
theorem startTimersFailTheStart : Obligations.StartTimersFailTheStart := by
  intro s d hd
  refine ⟨fun hs ht hlt => ?_, fun hs ht hlt => ?_, fun i hi hthird => ?_⟩
  · have hnext : s.stopAck.failedStart State.enterStopped = s.stopAck.countFailure.enterStopped := State.failedStart_of_lt _ hlt
    refine ⟨_, _, execAckTimerExpiry_of_due hs ht hd, State.checkSleep_settles _, ?_⟩
    rw [hnext]
    exact ⟨by rw [State.syncRequest_eq]; rfl, by rw [State.syncRequest_eq]; rfl,
      State.syncRequest_eng s.stopAck.countFailure.enterStopped s.request⟩
  · have hnext : s.stopStart.failedStart State.enterStopPending = s.stopStart.countFailure.enterStopPending :=
      State.failedStart_of_lt _ hlt
    have hchanged : s.stopStart.countFailure.enterStopPending.request ≠ s.request := by
      rw [State.request_of_cranking hs]; show Request.stop ≠ Request.none; decide
    refine ⟨_, _, execStartTimerExpiry_of_due hs ht hd, State.checkSleep_settles _, ?_⟩
    rw [hnext]
    exact ⟨by rw [State.syncRequest_eq]; rfl, by rw [State.syncRequest_eq]; rfl, State.syncRequest_eng_of_changed hchanged⟩
  · rcases hi with ⟨rfl, hs, ht⟩ | ⟨rfl, hs, ht⟩
    · exact ⟨_, _, execAckTimerExpiry_of_due hs ht hd, State.checkSleep_settles _,
        State.failedStart_locksOut (s := s.stopAck) _ _ hthird⟩
    · exact ⟨_, _, execStartTimerExpiry_of_due hs ht hd, State.checkSleep_settles _,
        State.failedStart_locksOut (s := s.stopStart) _ _ hthird⟩

end Sys2Proof.Machine
end

section
/-! PROOFS. Telegrams that Topic Intake does not accept (spec/06): the topic, source and length tests, and the removal time of the fault that a failed test raises. -/

namespace Sys2Proof.Machine

/-! ### Removal times (R98, R99) -/

theorem mem_setRemoval {rs : List Removal} {f : TimedFault} {topic time : Nat} {r : Removal} :
    r ∈ setRemoval rs f topic time ↔ r = ⟨f, topic, time⟩ ∨ (r ∈ rs ∧ ¬ (r.fault = f ∧ r.topic = topic)) := by
  simp only [setRemoval, List.mem_append, List.mem_filter, List.mem_singleton, Bool.not_eq_true', Bool.and_eq_false_iff,
    beq_eq_false_iff_ne, not_and_or, ne_eq]
  exact or_comm

/-! ### The three tests (R97 to R99) -/

section
variable {s : State} {bits : List Bool} {f : Frame} {e : Consumed}

theorem State.takeTelegram_of_unconsumed (h : (findTopic s.ti.table f.topic).bind (·.consumed) = none) : s.takeTelegram f = s := by
  unfold State.takeTelegram
  cases ht : findTopic s.ti.table f.topic with
  | none => rfl
  | some entry =>
    have hc : entry.consumed = none := by simpa [ht] using h
    simp only [hc]

/-- R98, R99: the source test comes before the length test. -/
theorem State.takeTelegram_of_consumed (h : (findTopic s.ti.table f.topic).bind (·.consumed) = some e) : s.takeTelegram f =
    if e.source ≠ 31 ∧ e.source ≠ f.source then s.rejectTelegram .sourceMismatch f.topic
    else if f.payload.length ≠ kindWords e.kind then s.rejectTelegram .lengthError f.topic
    else s.acceptTelegram e f := by
  obtain ⟨entry, ht, hc⟩ := Option.bind_eq_some_iff.1 h
  simp only [State.takeTelegram, ht, hc]

theorem State.receive_heard (h : Heard s bits f) : s.receive bits = (s.takeTelegram f).checkSleep := by
  rw [(State.receive_good h.good h.notOwn).1 h.working, State.hearTelegram, if_neg h.other]

/-- R178: a rejection moves neither the part nor the Negotiator, so that it brings no sleep. -/
theorem State.rejectTelegram_checkSleep (k : TimedFault) (topic : Nat) (h : NoSleepDue s) :
    (s.rejectTelegram k topic).checkSleep = s.rejectTelegram k topic :=
  State.checkSleep_of_noSleepDue h

end

/-- Settles O18: of the three tests the first that fails leaves the state as it was or rejects the telegram, and the sleep check finds nothing due. -/
theorem rejectedTelegramsChangeNoSlot : Obligations.RejectedTelegramsChangeNoSlot := by
  intro s bits f hheard hsleep
  have hx : exec (.telegramReceived bits) s = .next (s.takeTelegram f).checkSleep := congrArg _ (State.receive_heard hheard)
  have rejected (k : TimedFault) (ht : s.takeTelegram f = s.rejectTelegram k f.topic) :
      exec (.telegramReceived bits) s = .next (s.rejectTelegram k f.topic) := by
    rw [hx, ht, State.rejectTelegram_checkSleep k _ hsleep]
  refine ⟨fun hnone => ?_, fun e he => ⟨fun hany hsrc => ?_, fun hsrc hlen => ?_⟩⟩
  · rw [hx, State.takeTelegram_of_unconsumed hnone, State.checkSleep_of_noSleepDue hsleep]
  · have ht := (State.takeTelegram_of_consumed he).trans (if_pos ⟨hany, hsrc⟩)
    exact ⟨_, rejected .sourceMismatch ht, fun _ => mem_setRemoval⟩
  · have hpass : ¬ (e.source ≠ 31 ∧ e.source ≠ f.source) := fun ⟨hany, hne⟩ => hsrc.elim hany hne
    have ht := (State.takeTelegram_of_consumed he).trans ((if_neg hpass).trans (if_pos hlen))
    exact ⟨_, rejected .lengthError ht, fun _ => mem_setRemoval⟩

end Sys2Proof.Machine
end

section
/-! PROOFS. The driveline bus (spec/09): the telegram an attempt takes, the return of a failed attempt's telegram, transmit errors and the SILENT link, and the complete send with its report to the channel. -/

namespace Sys2Proof.Machine

/-! ### The waiting telegrams in their order (R150, R161) -/

theorem Outgoing.rank_setpoint (c : Chan) (sp : Setpoint) : (Outgoing.setpoint c sp).rank = chanCode c := by cases c <;> rfl

theorem Outgoing.rank_le_status (t : Outgoing) (st : StatusTelegram) : t.rank ≤ (Outgoing.status st).rank := by
  cases t with
  | setpoint c sp => cases c <;> simp [Outgoing.rank]
  | status => exact le_rfl

theorem Bus.setpoint_mem_waiting {b : Bus} {c : Chan} {sp : Setpoint} (h : b.queue.get c = some sp) : .setpoint c sp ∈ b.waiting :=
  List.mem_append_left _ (List.mem_filterMap.2 ⟨c, by cases c <;> simp, by rw [h]; rfl⟩)

theorem Bus.status_mem_waiting {b : Bus} {st : StatusTelegram} (h : b.statusQ = some st) : .status st ∈ b.waiting :=
  List.mem_append_right _ (by simp [h])

theorem Bus.waiting_pairwise_rank (b : Bus) : b.waiting.Pairwise (fun t u => t.rank ≤ u.rank) := by
  refine List.pairwise_append.2 ⟨?_, ?_, fun t ht u hu => ?_⟩
  · refine List.Pairwise.filterMap (R := fun c d => chanCode c ≤ chanCode d) _ (fun c d hcd t ht u hu => ?_) (by decide)
    obtain ⟨sp, -, rfl⟩ := Option.map_eq_some_iff.1 ht
    obtain ⟨sq, -, rfl⟩ := Option.map_eq_some_iff.1 hu
    simpa only [Outgoing.rank_setpoint] using hcd
  · cases b.statusQ <;> simp
  · obtain ⟨c, -, hc⟩ := List.mem_filterMap.1 ht
    obtain ⟨sp, -, rfl⟩ := Option.map_eq_some_iff.1 hc
    obtain ⟨st, -, rfl⟩ := Option.map_eq_some_iff.1 (Option.mem_toList.1 hu)
    exact Outgoing.rank_le_status _ st

/-! ### The choice (R161) -/

/-- R161: the telegram `t` goes before `u`, or is it: its topic is lower, or the topics are equal and its kind is not the later one. -/
def Outgoing.Precedes (cfg : Cfg) (t u : Outgoing) : Prop :=
  t.topic cfg < u.topic cfg ∨ (t.topic cfg = u.topic cfg ∧ t.rank ≤ u.rank)

theorem Outgoing.Precedes.refl (cfg : Cfg) (t : Outgoing) : t.Precedes cfg t := .inr ⟨rfl, le_rfl⟩

theorem Outgoing.Precedes.trans {cfg : Cfg} {t u v : Outgoing} (h : t.Precedes cfg u) (h' : u.Precedes cfg v) : t.Precedes cfg v := by
  unfold Outgoing.Precedes at *; omega

/-- R161: of a telegram and one of no earlier kind, the choice is one that goes before both. -/
theorem lowerTopic_precedes (cfg : Cfg) {b t : Outgoing} (h : b.rank ≤ t.rank) :
    ∃ x, lowerTopic cfg (some b) t = some x ∧ (x = b ∨ x = t) ∧ x.Precedes cfg b ∧ x.Precedes cfg t := by
  by_cases hlt : t.topic cfg < b.topic cfg
  · exact ⟨t, if_pos hlt, .inr rfl, .inl hlt, .refl cfg t⟩
  · exact ⟨b, if_neg hlt, .inl rfl, .refl cfg b, (Nat.eq_or_lt_of_le (Nat.le_of_not_lt hlt)).elim (fun he => .inr ⟨he, h⟩) .inl⟩

theorem foldl_lowerTopic_precedes (cfg : Cfg) (l : List Outgoing) (b : Outgoing)
    (h : (b :: l).Pairwise (fun t u => t.rank ≤ u.rank)) :
    ∃ x, l.foldl (lowerTopic cfg) (some b) = some x ∧ x ∈ b :: l ∧ ∀ u ∈ b :: l, x.Precedes cfg u := by
  induction l generalizing b with
  | nil => exact ⟨b, rfl, by simp, by simpa using Outgoing.Precedes.refl cfg b⟩
  | cons t l ih =>
    obtain ⟨hb, htl⟩ := List.pairwise_cons.1 h
    obtain ⟨ht, hl⟩ := List.pairwise_cons.1 htl
    obtain ⟨y, hy, hmem, hyb, hyt⟩ := lowerTopic_precedes cfg (hb t (by simp))
    have hyl : (y :: l).Pairwise (fun t u => t.rank ≤ u.rank) :=
      List.pairwise_cons.2 ⟨fun u hu => hmem.elim (fun e => e ▸ hb u (by simp [hu])) (fun e => e ▸ ht u hu), hl⟩
    obtain ⟨x, hx, hxmem, hxle⟩ := ih y hyl
    refine ⟨x, by rw [List.foldl_cons, hy, hx], ?_, ?_⟩
    · rcases List.mem_cons.1 hxmem with rfl | hxl
      · rcases hmem with rfl | rfl <;> simp
      · simp [hxl]
    · have hxy := hxle y (by simp)
      simp only [List.forall_mem_cons]
      exact ⟨hxy.trans hyb, hxy.trans hyt, fun u hu => hxle u (by simp [hu])⟩

theorem Bus.choose_precedes (cfg : Cfg) {b : Bus} (h : b.waiting ≠ []) :
    ∃ t, b.choose cfg = some t ∧ t ∈ b.waiting ∧ ∀ u ∈ b.waiting, t.Precedes cfg u := by
  have hrank := b.waiting_pairwise_rank
  unfold Bus.choose
  cases hw : b.waiting with
  | nil => exact absurd hw h
  | cons t l => exact foldl_lowerTopic_precedes cfg l t (hw ▸ hrank)

theorem execAttemptStart_of_choose {s : State} {t : Outgoing} (hw : s.working = true) (hl : s.bi.link = .active) (hx : s.bi.tx = none)
    (h : s.bi.choose s.cfg = some t) : execAttemptStart s = .next (s.beginAttempt t) := by
  rw [execAttemptStart, if_pos ⟨hw, hl, hx⟩, h]

/-- Settles O29: the waiting telegrams stand in the order of their kinds, so the one that the choice keeps goes before them all. -/
theorem attemptTakesTheLowestTopic : Obligations.AttemptTakesTheLowestTopic := by
  intro s hw hl hx hne
  obtain ⟨t, hchoose, hmem, hfirst⟩ := Bus.choose_precedes s.cfg hne
  refine ⟨_, _, execAttemptStart_of_choose hw hl hx hchoose, rfl, hmem, hfirst, fun c => ?_, fun st => Bus.status_mem_waiting⟩
  cases hq : s.bi.queue.get c with
  | none => exact .inl rfl
  | some sp => exact .inr ⟨sp, rfl, Bus.setpoint_mem_waiting hq⟩

/-! ### The return of a failed attempt's telegram (R162) -/

theorem State.returnTelegram_setpoint (s : State) (c : Chan) (sp : Setpoint) :
    s.returnTelegram (.setpoint c sp) = s.withBi { s.bi with
      queue := if s.bi.queue.get c = none then s.bi.queue.set c (some { sp with request := if c = .eng then s.request else .none })
        else s.bi.queue } := by
  cases hq : s.bi.queue.get c <;> simp only [State.returnTelegram, hq, if_true, reduceCtorEq, if_false] <;> rfl

theorem State.returnTelegram_status (s : State) (st : StatusTelegram) :
    s.returnTelegram (.status st) = s.withBi { s.bi with statusQ := if s.bi.statusQ = none then some st else s.bi.statusQ } := by
  cases hq : s.bi.statusQ <;> simp only [State.returnTelegram, hq, if_true, reduceCtorEq, if_false]
  exact congrArg (fun q => s.withBi { s.bi with statusQ := q }) hq

/-- R154, R155, R162: an attempt that ends without a complete send empties the transmitter, and its return changes the two kinds of entry alone. -/
theorem State.returnTelegram_ended (s : State) (t : Outgoing) : (s.withBi { s.bi with tx := none }).returnTelegram t = s.withBi { s.bi with
    tx := none, queue := (s.returnTelegram t).bi.queue, statusQ := (s.returnTelegram t).bi.statusQ } := by
  cases t with
  | setpoint c sp => simp only [State.returnTelegram_setpoint]; rfl
  | status st => simp only [State.returnTelegram_status]; rfl

/-! ### Transmit errors and the SILENT link (R155, R156) -/

theorem State.countError_of_lt {s : State} (h : s.bi.errors + 1 < 16) :
    s.countError = s.withBi { s.bi with errors := s.bi.errors + 1 } := if_neg (Nat.not_le.2 h)

theorem State.countError_of_ge {s : State} (h : 16 ≤ s.bi.errors + 1) : s.countError =
    (s.withBi { s.bi with errors := s.bi.errors + 1, link := .silent, silentTimer := some (s.now + 50) }).raise .linkSilent := if_pos h

theorem execTransmitError_of_attempt {s : State} {a : Attempt} (h : s.bi.tx = some a) :
    execTransmitError s = .next ((s.withBi { s.bi with tx := none }).returnTelegram a.telegram).countError := by
  simp only [execTransmitError, h]

theorem execSilentTimerExpiry_of_due {s : State} {d : Nat} (ht : s.bi.silentTimer = some d) (hd : d ≤ s.now) :
    execSilentTimerExpiry s = .next ((s.withBi { s.bi with link := .active, errors := 0, silentTimer := none }).remove .linkSilent) :=
  if_pos ((timerDue_iff _ _).2 ⟨d, ht, hd⟩)

/-- Settles O32: an error is the telegram's return and the count, which at 16 silences the link; the silent timer's expiry sets link and count back and leaves the entries. -/
theorem sixteenErrorsSilenceTheLink : Obligations.SixteenErrorsSilenceTheLink := by
  refine ⟨fun s a ha => ?_, fun s d ht hd => ?_⟩
  · have hret := s.returnTelegram_ended a.telegram
    have herr : ((s.withBi { s.bi with tx := none }).returnTelegram a.telegram).bi.errors = s.bi.errors := by rw [hret]; rfl
    refine ⟨_, (s.returnTelegram a.telegram).bi.queue, (s.returnTelegram a.telegram).bi.statusQ, execTransmitError_of_attempt ha,
      fun c sp hc => ?_, fun st hst => ?_, fun hlt => ?_, fun hge => ?_⟩
    · rw [hc, State.returnTelegram_setpoint]; exact ⟨rfl, rfl⟩
    · rw [hst, State.returnTelegram_status]; exact ⟨rfl, rfl⟩
    · rw [State.countError_of_lt (herr ▸ hlt), hret]; rfl
    · rw [State.countError_of_ge (herr ▸ hge), hret]
      exact ⟨rfl, State.faultLine_raise _ .linkSilent rfl⟩
  · exact ⟨_, execSilentTimerExpiry_of_due ht hd, rfl, FaultMon.listed_remove_self _ _,
      fun h => ((FaultMon.mem_degrading_remove ..).1 h).2 rfl, FaultMon.remove_list _ _, rfl⟩

/-! ### The report of a send to its channel (R118, R120) -/

/-- R118: the channel after a send that it has room for: an IDLE one is ACTIVE with its retry count 0, the entry is the newest of the list, and the deadline is that of the oldest. -/
def Channel.afterSend (ch : Channel) (timeout : Nat) (e : Sent) : Channel := { ch with
  hs := if ch.hs = .idle then .active else ch.hs
  retry := if ch.hs = .idle then 0 else ch.retry
  list := ch.list ++ [e]
  deadline := (ch.list ++ [e]).head?.map (fun x => x.time + timeout) }

theorem State.formDeadline_withChan (s : State) (c : Chan) (ch : Channel) : (s.withChan c ch).formDeadline c =
    s.withChan c { ch with deadline := ch.list.head?.map (fun e => e.time + s.cfg.echoTimeout) } := by
  simp only [State.formDeadline, State.withChan, State.withCu, PerChan.get_set_self, PerChan.set_set]

/-- R118: a send reported to a channel that holds fewer than 4 entries, none of them overdue. -/
theorem State.channelSent_of_room {s : State} {c : Chan} {q : SeqNo} {x : Int} (hroom : (s.cu.get c).list.length < 4)
    (hdue : NotYetDue s ((s.cu.get c).list ++ [⟨q, x, s.now⟩])) :
    s.channelSent c q x = s.withChan c ((s.cu.get c).afterSend s.cfg.echoTimeout ⟨q, x, s.now⟩) := by
  have fresh (ch : Channel) (hl : ch.list = (s.cu.get c).list ++ [⟨q, x, s.now⟩]) : (s.withChan c ch).freshDeadline c =
      s.withChan c { ch with deadline := ch.list.head?.map (fun e => e.time + s.cfg.echoTimeout) } := by
    rw [State.freshDeadline_of_notYetDue, State.formDeadline_withChan]
    rwa [State.withChan_get, if_pos rfl, hl]
  simp only [State.channelSent, if_neg (Nat.not_le.2 hroom)]
  rw [fresh _ (by split <;> rfl)]
  by_cases hidle : (s.cu.get c).hs = .idle <;> simp only [Channel.afterSend, hidle, if_true, if_false]

/-- R118, R121: a full list gives up its oldest entry first, which makes room. -/
theorem State.channelSent_expires_oldest {s : State} {c : Chan} (q : SeqNo) (x : Int) (hfull : (s.cu.get c).list.length = 4) :
    s.channelSent c q x = (s.expireOldest c).channelSent c q x := by
  have hroom : ¬ 4 ≤ ((s.expireOldest c).cu.get c).list.length := by simp [State.expireOldest_list, hfull]
  simp only [State.channelSent, if_pos hfull.ge, if_neg hroom]

/-- R127: the fault of an expiry is that of the state it leads to, RECOVERY or LOST. -/
theorem State.expireOldest_fm (s : State) (c : Chan) (hidle : (s.cu.get c).hs ≠ .idle) : (s.expireOldest c).fm =
    if ((s.expireOldest c).cu.get c).hs = .recovery then s.fm.raise (.channelRecovery c) s.now
    else (if (s.cu.get c).hs = .recovery then s.fm.remove (.channelRecovery c) else s.fm).raise (.channelLost c) s.now := by
  rw [State.expireOldest_get s c hidle]
  by_cases hlost : (s.cu.get c).hs = .lost
  · simp [hlost, (State.expireOldest_of_lost hlost).1]
  · have htry : (s.cu.get c).hs = .active ∨ (s.cu.get c).hs = .recovery := by
      cases h : (s.cu.get c).hs <;> simp_all
    by_cases hr : s.cfg.nRetry ≤ (s.cu.get c).retry + 1
    · simp [hr, (State.expireOldest_of_exhausted htry hr).1]
    · simp [hlost, hr, (State.expireOldest_of_retrying htry (Nat.not_le.1 hr)).1]

/-- R118, R121: a send reported to a full list gives up the oldest entry; the new oldest being not yet due, the deadline is formed from it. -/
theorem State.channelSent_of_full {s : State} {c : Chan} {q : SeqNo} {x : Int} {e : Sent} {rest : List Sent}
    (hl : (s.cu.get c).list = e :: rest) (h3 : rest.length = 3) (hdue : NotYetDue s rest) (hidle : (s.cu.get c).hs ≠ .idle) :
    s.channelSent c q x = (s.expireOldest c).withChan c { (s.expireOldest c).cu.get c with
      list := rest ++ [⟨q, x, s.now⟩], deadline := rest.head?.map (fun y => y.time + s.cfg.echoTimeout) } := by
  obtain ⟨hnow, -, hcfg, -⟩ := s.expireOldest_frame c
  have hlist : ((s.expireOldest c).cu.get c).list = rest := by rw [State.expireOldest_list, hl]; rfl
  have hhead (y : Sent) : (rest ++ [y]).head? = rest.head? := by cases rest <;> simp_all
  have hstill : ((s.expireOldest c).cu.get c).hs ≠ .idle := by rw [State.expireOldest_get s c hidle]; dsimp only; split <;> simp
  rw [State.channelSent_expires_oldest q x (by simp [hl, h3]), State.channelSent_of_room (by rw [hlist]; omega)]
  · simp only [Channel.afterSend, if_neg hstill, hlist, hhead, hnow, hcfg]
  · simpa only [NotYetDue, hlist, hhead, hnow, hcfg] using hdue

/-! ### The reports of a complete send (R157, R140) -/

section
variable {s : State} {a : Attempt} {c : Chan} {sp : Setpoint}

theorem execCompleteSend_of_attempt (h : s.bi.tx = some a) : execCompleteSend s = .next ((s.sendDone a).reportSend a).checkSleep := by
  simp only [execCompleteSend, h]

theorem State.sendDone_setpoint (h : a.telegram = .setpoint c sp) : s.sendDone a = s.withBi { s.bi with
    tx := none, errors := 0, seqs := s.bi.seqs.set c (s.bi.seqs.get c + 1) } := by
  simp only [State.sendDone, h, Bus.advance]

/-- R140: outside WITHDRAWING the Negotiator does nothing with the report of an ENG send. -/
theorem State.engSent_of_not_withdrawing (r : Request) (h : s.en.state ≠ .withdrawing) : s.engSent r = s :=
  if_neg fun hw => h hw.1

/-- R157: a setpoint's send is reported to its channel, and an ENG one then to the Negotiator. -/
theorem State.reportSend_setpoint (h : a.telegram = .setpoint c sp) : s.reportSend a =
    if c = .eng then ((s.channelSent c a.seq sp.value).engSent sp.request).syncRequest (s.channelSent c a.seq sp.value).request
    else s.channelSent c a.seq sp.value := by
  cases c <;> simp only [State.reportSend, h, reduceCtorEq, if_true, if_false]

/-- R140, R117: what the report to the Negotiator adds to the one to the channel moves no channel, and of the Bus Interface the queue alone. -/
theorem State.reportSend_channelSent (h : a.telegram = .setpoint c sp) :
    (s.reportSend a).cu = (s.channelSent c a.seq sp.value).cu ∧
    (s.reportSend a).bi = { (s.channelSent c a.seq sp.value).bi with queue := (s.reportSend a).bi.queue } := by
  rw [State.reportSend_setpoint h]
  split
  · rw [State.syncRequest_eq]; simp
  · exact ⟨rfl, rfl⟩

theorem State.reportSend_of_not_withdrawing (h : a.telegram = .setpoint c sp) (hw : c ≠ .eng ∨ s.en.state ≠ .withdrawing) :
    s.reportSend a = s.channelSent c a.seq sp.value := by
  rw [State.reportSend_setpoint h]
  split
  · next hc =>
    have hen : (s.channelSent c a.seq sp.value).en.state ≠ .withdrawing := by simpa using hw.resolve_left (not_not.2 hc)
    rw [State.engSent_of_not_withdrawing _ hen]; exact if_pos rfl
  · rfl

end

/-- Settles O33: the report is `channelSent`, which appends the entry where there is room, and after the expiry of the oldest where there is not. -/
theorem completeSendIsReported : Obligations.CompleteSendIsReported := by
  refine ⟨fun s a ha => ⟨fun st hst => ?_, fun c sp hc hroom hdue => ?_⟩, fun s a c sp e rest ha hc hl h3 hdue hidle => ?_⟩
  · have hdone : (s.sendDone a).reportSend a =
        { s with bi := { s.bi with tx := none, errors := 0, statusSeq := s.bi.statusSeq + 1 } } := by
      simp only [State.reportSend, State.sendDone, hst, Bus.advance]; rfl
    exact ⟨_, execCompleteSend_of_attempt ha, hdone ▸ State.checkSleep_settles _⟩
  · have hsent := State.channelSent_of_room (s := s.sendDone a) hroom hdue
    obtain ⟨hcu, hbi⟩ := State.reportSend_channelSent (s := s.sendDone a) hc
    refine ⟨_, _, execCompleteSend_of_attempt ha, State.checkSleep_settles _, ?_, ?_, fun hw => ?_⟩
    · rw [hcu, hsent]; rfl
    · rw [hbi, hsent, State.sendDone_setpoint hc]; rfl
    · rw [State.reportSend_of_not_withdrawing (s := s.sendDone a) hc hw, hsent, State.sendDone_setpoint hc]; exact ⟨rfl, rfl, rfl⟩
  · have hsent := State.channelSent_of_full (s := s.sendDone a) (q := a.seq) (x := sp.value) hl h3 hdue hidle
    obtain ⟨hcu, hbi⟩ := State.reportSend_channelSent (s := s.sendDone a) hc
    have hother (d : Chan) (hd : d ≠ c) : ((s.sendDone a).reportSend a).cu.get d = s.cu.get d := by
      rw [hcu, hsent, State.withChan_get, if_neg hd, State.expireOldest_get_of_ne _ hd]; rfl
    have hch : ((s.sendDone a).reportSend a).cu.get c = { ((s.sendDone a).expireOldest c).cu.get c with
        list := rest ++ [⟨a.seq, sp.value, s.now⟩], deadline := rest.head?.map (fun x => x.time + s.cfg.echoTimeout) } := by
      rw [hcu, hsent, State.withChan_get, if_pos rfl]; rfl
    have hget := State.expireOldest_get (s.sendDone a) c hidle
    refine ⟨_, _, execCompleteSend_of_attempt ha, State.checkSleep_settles _, ?_, ?_, ?_, hother, fun hlost => ?_, fun htry => ?_, ?_,
      fun hw => ?_⟩
    · rw [hch]
    · rw [hch]
    · rw [hch]; exact State.expireOldest_shut (s.sendDone a) c
    · rw [hch, hget]; simp [hlost]
    · have hlost : (s.cu.get c).hs ≠ .lost := by rcases htry with h | h <;> simp [h]
      rw [hch, hget]; simp [hlost]
    · rw [hbi, hsent, State.expireOldest_eq, State.sendDone_setpoint hc]; rfl
    · rw [hch, State.reportSend_of_not_withdrawing (s := s.sendDone a) hc hw, hsent]
      exact ⟨by simp, State.expireOldest_fm (s.sendDone a) c hidle⟩

end Sys2Proof.Machine
end

section
/-! PROOFS. Configuration, start-up and sleep (spec/11): what an image puts in force, the entry to READY, the end of a load, the wake, and the ignition's moves between the part states. -/

namespace Sys2Proof.Machine

/-! ### The fields of an image (R175, R186) -/

@[simp] theorem perKind_get {α : Type} (f : Kind → α) (k : Kind) : (perKind f).get k = f k := by cases k <;> rfl

/-- R175: a field is clamped into its range. -/
theorem ImageField.value_between {f : ImageField} (h : f.lo ≤ f.hi) (ws : List Word) : BetweenNat f.lo f.hi (f.value ws) :=
  clampNat_between f.lo f.hi (f.raw ws) h

/-- R106, R175: the hold limit lies in its range and not below the fresh limit. -/
theorem holdValue_between (ws : List Word) (k : Kind) :
    BetweenNat 10 5000 (holdValue ws k) ∧ (freshField k).value ws ≤ holdValue ws k := by
  have hfresh : BetweenNat 10 1000 ((freshField k).value ws) := ImageField.value_between (f := freshField k) (Nat.le_of_ble_eq_true rfl) ws
  have hhold : BetweenNat 10 5000 ((holdField k).value ws) := ImageField.value_between (f := holdField k) (Nat.le_of_ble_eq_true rfl) ws
  unfold holdValue
  omega

/-- R175, R186: whatever words an image holds, the fields it puts in force lie in their ranges. -/
theorem cfgOk_cfgOfImage (ws : List Word) : CfgOk (cfgOfImage ws) := by
  have between {w lsb n lo hi : Nat} (h : lo ≤ hi) : BetweenNat lo hi ((ImageField.mk w lsb n lo hi).value ws) :=
    ImageField.value_between (f := ⟨w, lsb, n, lo, hi⟩) h ws
  have le {w lsb n hi : Nat} : (ImageField.mk w lsb n 0 hi).value ws ≤ hi := (between (Nat.zero_le hi)).2
  exact {
    station := le
    topic := (everyKind_iff _).2 fun k => by rw [cfgOfImage, perKind_get]; exact between (by decide)
    source := (everyKind_iff _).2 fun k => by rw [cfgOfImage, perKind_get]; exact le
    outTopic := ⟨between (by decide), between (by decide), between (by decide), between (by decide)⟩
    ownTopics := ⟨between (by decide), between (by decide)⟩
    fresh := (everyKind_iff _).2 fun k => by rw [cfgOfImage, perKind_get]; exact between (by decide)
    hold := (everyKind_iff _).2 fun k => by simp only [cfgOfImage, perKind_get]; exact holdValue_between ws k
    echo := ⟨between (by decide), between (by decide)⟩
    cycle := ⟨between (by decide), between (by decide)⟩
    charge := ⟨le, le⟩
    weights := ⟨le, le, le⟩
    dwell := ⟨le, le⟩
    powers := ⟨le, le⟩
    genset := le
    efficiency := ⟨between (by decide), between (by decide)⟩
    caps := ⟨le, le, le, le, le⟩
    speeds := ⟨between (by decide), between (by decide)⟩
    demand := between (by decide)
    startTimeout := between (by decide) }

/-- R175: the result names the word of the first clamped field, and is GOOD where no field was clamped. -/
theorem loadResultOf_cases (ws : List Word) : (loadResultOf ws = .good ∧ ∀ p ∈ fieldChanges ws, p.2 = false) ∨
    ∃ w, loadResultOf ws = .clamped w ∧ firstClamped ws = some w := by
  cases h : firstClamped ws with
  | none =>
    refine .inl ⟨by rw [loadResultOf, h], fun p hp => ?_⟩
    simpa using List.find?_eq_none.1 (Option.map_eq_none_iff.1 h) p hp
  | some w => exact .inr ⟨w, by rw [loadResultOf, h], rfl⟩

/-! ### Entry to READY (R177) -/

/-- Faults raised one after another at one time (R167). -/
def FaultMon.raiseAll (m : FaultMon) (l : List FaultId) (t : Nat) : FaultMon := l.foldl (fun m f => m.raise f t) m

/-- R167, R169: the degrading set after several raises. -/
theorem FaultMon.mem_degrading_raiseAll (m : FaultMon) (l : List FaultId) (t : Nat) (g : FaultId) :
    g ∈ (m.raiseAll l t).degrading ↔ g ∈ m.degrading ∨ (g ∈ l ∧ g.isDegrading = true) := by
  induction l generalizing m with
  | nil => simp [FaultMon.raiseAll]
  | cons f l ih =>
    have hstep : m.raiseAll (f :: l) t = (m.raise f t).raiseAll l t := rfl
    rw [hstep, ih, FaultMon.mem_degrading_raise, List.mem_cons]
    constructor
    · rintro ((h | ⟨rfl, hd⟩) | ⟨hl, hd⟩)
      exacts [.inl h, .inr ⟨.inl rfl, hd⟩, .inr ⟨.inr hl, hd⟩]
    · rintro (h | ⟨rfl | hl, hd⟩)
      exacts [.inl (.inl h), .inl (.inr ⟨rfl, hd⟩), .inr ⟨hl, hd⟩]

/-- R166, R176: the configuration faults change the Fault Monitor alone. -/
theorem State.raiseConfigFaults_eq (s : State) :
    s.raiseConfigFaults = s.withFm (s.fm.raiseAll (configFaults s.su.result s.su.conflict) s.now) := by
  unfold State.raiseConfigFaults configFaults
  cases s.su.result <;> by_cases hc : s.su.conflict = true <;> simp [hc, FaultMon.raiseAll] <;> rfl

theorem State.takeShut_get (s : State) (c : Chan) :
    s.takeShut.cu.get c = shutFlag (s.cfg.shutEnable.get c) s.pins.shutdown (s.cu.get c) := by cases c <;> rfl

/-- R177, R178: Start-up Control at entry to READY, with the level of IGN it finds. -/
def Startup.atReady (su : Startup) (ign : Bool) (now : Nat) : Startup :=
  if ign = true then { su with part := .ready, load := .idle }
  else { su with part := .windingDown, load := .idle, windTimer := some (now + 2000), zeroRelease := false }

@[simp] theorem Startup.atReady_result (su : Startup) (ign : Bool) (now : Nat) : (su.atReady ign now).result = su.result := by
  cases ign <;> rfl

@[simp] theorem Startup.atReady_conflict (su : Startup) (ign : Bool) (now : Nat) : (su.atReady ign now).conflict = su.conflict := by
  cases ign <;> rfl

@[simp] theorem Startup.atReady_cause (su : Startup) (ign : Bool) (now : Nat) : (su.atReady ign now).cause = su.cause := by
  cases ign <;> rfl

/-- R80, R88, R130, R176, R177: the entry to READY, block by block. -/
theorem State.enterReady_eq (s : State) : s.enterReady = { s with
    su := s.su.atReady s.pins.ign s.now
    cs := { s.cs with
      timer := some (s.now + s.cfg.tCycleMax)
      lastRelease := if s.cfg.releaseSource = .line then s.pins.release else s.cs.lastRelease }
    cu := s.takeShut.cu
    fm := s.fm.raiseAll (configFaults s.su.result s.su.conflict) s.now } := by
  unfold State.enterReady
  rw [State.raiseConfigFaults_eq]
  cases hr : s.cfg.releaseSource <;> cases hi : s.pins.ign <;>
    simp [State.sampleRelease, State.startCycleTimer, hr, hi, Startup.atReady] <;> rfl

/-- R177: a part `s` enters READY through any state `u` with its time, its lines and its queue. -/
theorem State.enterReady_enters {s u : State} (hnow : u.now = s.now) (hpins : u.pins = s.pins) (hfree : u.free = s.free)
    (hpending : u.pending = s.pending) : EntersReady s u.enterReady := by
  rw [State.enterReady_eq, hpins, hnow]
  refine ⟨?_, fun hi => ?_, rfl, fun hl => if_pos hl, (everyChan_iff _).2 fun c => ?_, rfl, rfl, hfree, hpending⟩
  · cases hi : s.pins.ign <;> simp [Startup.atReady]
  · rw [hi]; exact ⟨rfl, rfl⟩
  · show (u.takeShut.cu.get c).shut = _
    rw [State.takeShut_get, hpins]; rfl

/-! ### The end of a load (R174 to R176) -/

theorem State.endLoad_enters (s : State) (cfg : Cfg) (r : LoadResult) : EntersReady s (s.endLoad cfg r) :=
  State.enterReady_enters rfl rfl rfl rfl

/-- R96, R174, R176: what the end of a load puts in force, and the faults of its result. -/
theorem State.endLoad_takesForce (s : State) (cfg : Cfg) (r : LoadResult) :
    (s.endLoad cfg r).cfg = cfg ∧ (s.endLoad cfg r).ti = { s.ti with table := (buildTable cfg).1 } ∧
    (s.endLoad cfg r).su.result = r ∧ (s.endLoad cfg r).su.conflict = (buildTable cfg).2 ∧ (s.endLoad cfg r).su.cause = s.su.cause ∧
    (s.endLoad cfg r).fm = s.fm.raiseAll (configFaults r (buildTable cfg).2) s.now := by
  unfold State.endLoad
  generalize buildTable cfg = table
  rw [State.enterReady_eq]
  exact ⟨rfl, rfl, Startup.atReady_result .., Startup.atReady_conflict .., Startup.atReady_cause .., rfl⟩

section
variable {s : State} {b : Nat} {r : ImageRead} {ws : List Word}

theorem execLoadComplete_of_good (hp : s.su.part = .loading) (hl : s.su.load = .reading b) (hg : goodImage r = some ws)
    (hn : s.now ≤ b + 50) : execLoadComplete r s = .next (s.endLoad (cfgOfImage ws) (loadResultOf ws)) := by
  simp only [execLoadComplete, hp, hl, hg, if_pos hn]

theorem execLoadComplete_of_bad (hp : s.su.part = .loading) (hl : s.su.load = .reading b) (hg : goodImage r = none) :
    execLoadComplete r s = .next s.failLoad := by
  simp only [execLoadComplete, hp, hl, hg]

/-- R174: past the 50 ms a load fails, whatever the read gave (log entry 12). -/
theorem execLoadComplete_of_late (hp : s.su.part = .loading) (hl : s.su.load = .reading b) (hn : b + 50 < s.now) :
    execLoadComplete r s = .next s.failLoad := by
  cases hg : goodImage r with
  | none => exact execLoadComplete_of_bad hp hl hg
  | some ws => simp only [execLoadComplete, hp, hl, hg, if_neg (Nat.not_le.2 hn)]

theorem execLoadTimeout_of_due (hp : s.su.part = .loading) (hl : s.su.load = .reading b) (hn : b + 50 ≤ s.now) :
    execLoadTimeout s = .next s.failLoad := by
  simp only [execLoadTimeout, hp, hl, if_pos hn]

end

/-- Settles O8: the image's words pass, so the load ends with them, and each clause is read off `endLoad`. -/
theorem goodImageTakesForce : Obligations.GoodImageTakesForce := by
  intro s b bs hp hl hn hgood
  obtain ⟨hcfg, hti, hresult, hconflict, hcause, hfm⟩ :=
    s.endLoad_takesForce (cfgOfImage (wordsOfBytes bs)) (loadResultOf (wordsOfBytes bs))
  refine ⟨_, execLoadComplete_of_good hp hl (if_pos hgood) hn, hcfg, ?_, ?_, ?_, ?_, s.endLoad_enters _ _, ?_,
    ?_, hcause⟩
  · rw [hcfg]; exact cfgOk_cfgOfImage _
  · rw [hresult]; exact loadResultOf_cases _
  · rw [hti, hcfg]
  · rw [hconflict, hcfg]
  · rw [hresult, hconflict]; exact hfm
  · rw [hti]

/-- Settles O9: each of the ways leads to `failLoad`, which ends the load with the defaults. -/
theorem failedLoadTakesDefaults : Obligations.FailedLoadTakesDefaults := by
  intro s b i hp hl hi
  have hfails : exec i s = .next s.failLoad := by
    rcases hi with rfl | ⟨bs, rfl, hbad⟩ | ⟨r, rfl, hlate⟩ | ⟨rfl, hdue⟩
    · exact execLoadComplete_of_bad (r := .noAck) hp hl rfl
    · exact execLoadComplete_of_bad hp hl (if_neg (by simp [hbad]))
    · exact execLoadComplete_of_late hp hl hlate
    · exact execLoadTimeout_of_due hp hl hdue
  obtain ⟨hcfg, hti, hresult, -, -, hfm⟩ := s.endLoad_takesForce defaultCfg .default
  have hdegrading : .configDefault ∈ s.failLoad.fm.degrading := by
    rw [State.failLoad, hfm]
    exact (FaultMon.mem_degrading_raiseAll ..).2 (.inr ⟨List.mem_append_left _ (List.mem_singleton.2 rfl), rfl⟩)
  exact ⟨_, hfails, hcfg, hresult, congrArg Intake.table hti, s.endLoad_enters _ _, hdegrading, State.faultLine_of_mem hdegrading, hfm⟩

/-! ### Wake (R179, R180) -/

/-- R177: the reset values outlast the entry to READY, the shut flags apart. -/
theorem State.wake_atReset (s : State) : AtReset s.wake := by
  unfold State.wake
  rw [State.enterReady_eq]
  exact {
    queue := ⟨rfl, rfl, rfl⟩
    link := ⟨rfl, rfl, rfl⟩
    seqs := ⟨rfl, rfl⟩
    slots := (everyKind_iff _).2 fun k => by cases k <;> rfl
    looks := ⟨rfl, rfl, rfl, rfl⟩
    scheduler := ⟨rfl, rfl, rfl, rfl, rfl⟩
    plans := ⟨rfl, rfl⟩
    overrides := rfl
    mode := rfl
    channels := (everyChan_iff _).2 fun c => by cases c <;> rfl
    negotiator := rfl }

/-- R179, R180: the wake. -/
theorem State.wake_woken (s : State) : WokenFrom s s.wake := by
  refine ⟨s.wake_atReset, State.enterReady_enters rfl rfl rfl rfl, ?_, ?_, ?_⟩ <;> unfold State.wake <;> rw [State.enterReady_eq]
  · exact ⟨rfl, rfl, Startup.atReady_result .., Startup.atReady_conflict ..⟩
  · exact Startup.atReady_cause ..
  · rfl

/-! ### The ignition and the winding-down timer (R178) -/

theorem execIgnReleased_of_ready {s : State} (h : s.su.part = .ready) :
    execIgnReleased s = .next (s.withPins { s.pins with ign := false }).enterWindingDown := by
  simp only [execIgnReleased, h]

/-- R178: outside READY the release of IGN changes the level alone. -/
theorem execIgnReleased_of_not_ready {s : State} (h : s.su.part ≠ .ready) :
    execIgnReleased s = .next (s.withPins { s.pins with ign := false }) := by
  cases hp : s.su.part with
  | ready => exact absurd hp h
  | loading | windingDown | sleep => simp only [execIgnReleased, hp]

theorem execIgnAsserted_of_windingDown {s : State} (h : s.su.part = .windingDown) : execIgnAsserted s =
    .next ((s.withPins { s.pins with ign := true }).withSu { s.su with part := .ready, windTimer := none, zeroRelease := false }) := by
  simp only [execIgnAsserted, h]

theorem execIgnAsserted_of_sleep {s : State} (h : s.su.part = .sleep) :
    execIgnAsserted s = .next (s.withPins { s.pins with ign := true }).wake := by
  simp only [execIgnAsserted, h]

/-- R178: in LOADING and in READY the assertion of IGN changes the level alone. -/
theorem execIgnAsserted_of_awake {s : State} (hw : s.su.part ≠ .windingDown) (hs : s.su.part ≠ .sleep) :
    execIgnAsserted s = .next (s.withPins { s.pins with ign := true }) := by
  cases hp : s.su.part with
  | windingDown => exact absurd hp hw
  | sleep => exact absurd hp hs
  | loading | ready => simp only [execIgnAsserted, hp]

theorem execWindingDownTimeout_of_due {s : State} {d : Nat} (hp : s.su.part = .windingDown) (ht : s.su.windTimer = some d)
    (hd : d ≤ s.now) : execWindingDownTimeout s = .next s.enterSleep :=
  if_pos ⟨hp, (timerDue_iff _ _).2 ⟨d, ht, hd⟩⟩

/-- Settles O10: each command by the part state it acts on, the wake through `WokenFrom`. -/
theorem ignitionMovesThePart : Obligations.IgnitionMovesThePart := by
  refine ⟨fun s => ?_, fun s hs => ?_, fun s hs => ?_⟩
  · by_cases hr : s.su.part = .ready
    · rw [if_pos hr]; exact execIgnReleased_of_ready hr
    · rw [if_neg hr]; exact execIgnReleased_of_not_ready hr
  · by_cases hw : s.su.part = .windingDown
    · rw [if_pos hw]; exact execIgnAsserted_of_windingDown hw
    · rw [if_neg hw]; exact execIgnAsserted_of_awake hw hs
  · have hwoken := (s.withPins { s.pins with ign := true }).wake_woken
    exact ⟨_, execIgnAsserted_of_sleep hs, hwoken.ready.part.1, hwoken⟩

/-- Settles O12: the timer is due, so the part enters SLEEP. -/
theorem windingDownTimeoutSleeps : Obligations.WindingDownTimeoutSleeps :=
  fun s _ hp ht hd => ⟨_, execWindingDownTimeout_of_due hp ht hd, s.enterSleep_asleep⟩

end Sys2Proof.Machine
end

section
/-! PROOFS. What a step can do: one case for each effect a command has where its event can occur, so that the invariants are proved once for each effect. -/

namespace Sys2Proof.Machine

/-! ### The effects of the commands -/

/-- The part `s` after a command, by the effect it has there. A command whose event cannot occur has none (log entry 7). -/
inductive Effect (s : State) : State → Prop
  | stays : Effect s s
  | powersOn (l : Load) : Effect s { State.reset with
      pins := s.pins, su := { State.reset.su with load := l }, free := s.free, pending := s.pending }
  | resets : Effect s { s.resetBlocks with
      pins := { s.pins with reset := true }, cfg := defaultCfg, su := ⟨.loading, .held, .good, false, none, false, .resetLine⟩, ti := .reset [] }
  | lines (p : Pins) (h : p.shutdown = s.pins.shutdown ∨ s.su.part = .loading) : Effect s (s.withPins p)
  | beginsLoad (p : Pins) (h : s.su.part = .loading) : Effect s ((s.withPins p).withSu { s.su with load := .reading s.now })
  | endsLoad (cfg : Cfg) (r : LoadResult) (h : s.su.part = .loading) (hcfg : CfgOk cfg) : Effect s (s.endLoad cfg r)
  | windsDown (p : Pins) (hp : p.shutdown = s.pins.shutdown) (h : s.su.part = .ready) : Effect s (s.withPins p).enterWindingDown
  | resumes (p : Pins) (hp : p.shutdown = s.pins.shutdown) (h : s.su.part = .windingDown) :
      Effect s ((s.withPins p).withSu { s.su with part := .ready, windTimer := none, zeroRelease := false })
  | wakes (p : Pins) (h : s.su.part = .sleep) : Effect s (s.withPins p).wake
  | sleeps (h : s.su.part = .windingDown) : Effect s s.enterSleep
  | shuts (p : Pins) (h : s.su.part ≠ .loading) : Effect s (s.withPins p).takeShut
  | shutsAndBuilds (p : Pins) (h : AtWork s) : Effect s (s.withPins p).takeShut.buildShut
  | levels (b : Bool) (h : AtWork s) : Effect s (s.withLevel b)
  | releases (b : Bool) (h : AtWork s) : Effect s (s.withLevel b).releaseEvent.checkSleep
  | clashes (h : AtWork s) : Effect s (s.raise .stationClash)
  | ignores (h : AtWork s) : Effect s s.checkSleep
  | rejects (f : TimedFault) (topic : Nat) (h : AtWork s) : Effect s (s.rejectTelegram f topic).checkSleep
  | accepts (e : Consumed) (f : Frame) (h : AtWork s) : Effect s (s.acceptTelegram e f).checkSleep
  | cycles (h : timerDue s.cs.timer s.now = true) : Effect s ((s.withCs { s.cs with timer := none }).startRequest .timer)
  | completes (c : Computation) (h : s.cs.inflight = some c) : Effect s (s.completeComputation c)
  | attempts (x : Outgoing) (h : AtWork s) (hl : s.bi.link = .active) (ht : s.bi.tx = none) (hx : s.bi.choose s.cfg = some x) :
      Effect s (s.beginAttempt x)
  | loses (a : Attempt) (h : s.bi.tx = some a) : Effect s ((s.withBi { s.bi with tx := none }).returnTelegram a.telegram)
  | errs (a : Attempt) (h : s.bi.tx = some a) : Effect s ((s.withBi { s.bi with tx := none }).returnTelegram a.telegram).countError
  | reopens (h : timerDue s.bi.silentTimer s.now = true) :
      Effect s ((s.withBi { s.bi with link := .active, errors := 0, silentTimer := none }).remove .linkSilent)
  | sends (a : Attempt) (h : s.bi.tx = some a) : Effect s ((s.sendDone a).reportSend a).checkSleep
  | expires (c : Chan) (h : timerDue (s.cu.get c).deadline s.now = true) : Effect s (s.expireDeadline c)
  | ackFails (h : s.en.state = .startPending) :
      Effect s ((s.stopAck.failedStart State.enterStopped).syncRequest s.request).checkSleep
  | startFails (h : s.en.state = .cranking) :
      Effect s ((s.stopStart.failedStart State.enterStopPending).syncRequest s.request).checkSleep
  | stopLates (h : s.en.state = .stopPending) : Effect s (s.stopStop.raise .stopLate)
  | holdEnds (h : s.en.state = .inhibited) : Effect s ((s.stopHold.enterStopped).remove .engineInhibited).checkSleep
  | helds (k : Kind) (h : s.ti.slots.stamp k ≠ none) : Effect s (s.withTi { s.ti with slots := s.ti.slots.setState k .held })
  | stales (k : Kind) (h : s.ti.slots.stamp k ≠ none) (hk : k ≠ .engine) :
      Effect s ((s.withTi { s.ti with slots := s.ti.slots.setState k .stale }).raise (.stale k))
  | engineStales (h : s.ti.slots.stamp .engine ≠ none) :
      Effect s ((((s.withTi { s.ti with slots := s.ti.slots.setState .engine .stale, inhibit := .clear }).aroundFault
        (fun m => m.raise (.stale .engine) s.now) State.engineStale).syncRequest s.request).checkSleep)
  | forgets (f : TimedFault) (topic : Nat) (rs : List Removal) :
      Effect s ((s.withTi { s.ti with removals := rs }).remove (timedFaultId f topic))

section
variable {s t : State}

/-! ### Start-up and the lines -/

theorem execResetReleased_effect (h : execResetReleased s = .next t) : Effect s t := by
  unfold execResetReleased at h
  split at h <;> cases h
  · exact .beginsLoad _ ‹_›
  all_goals exact .lines _ (.inl rfl)

theorem cfgOk_default : CfgOk defaultCfg := by constructor <;> decide

theorem execLoadComplete_effect {r : ImageRead} (h : execLoadComplete r s = .next t) : Effect s t := by
  unfold execLoadComplete at h
  split at h
  · next hp _ =>
    split at h
    · split at h <;> cases h
      · exact .endsLoad _ _ hp (cfgOk_cfgOfImage _)
      · exact .endsLoad _ _ hp cfgOk_default
    · cases h; exact .endsLoad _ _ hp cfgOk_default
  all_goals cases h; exact .stays

theorem execLoadTimeout_effect (h : execLoadTimeout s = .next t) : Effect s t := by
  unfold execLoadTimeout at h
  split at h
  · next hp _ =>
    split at h <;> cases h
    · exact .endsLoad _ _ hp cfgOk_default
    · exact .stays
  all_goals cases h; exact .stays

theorem execIgnReleased_effect (h : execIgnReleased s = .next t) : Effect s t := by
  unfold execIgnReleased at h
  split at h <;> cases h
  · exact .windsDown _ rfl ‹_›
  all_goals exact .lines _ (.inl rfl)

theorem execIgnAsserted_effect (h : execIgnAsserted s = .next t) : Effect s t := by
  unfold execIgnAsserted at h
  split at h <;> cases h
  · exact .resumes _ rfl ‹_›
  · exact .wakes _ ‹_›
  all_goals exact .lines _ (.inl rfl)

theorem execWindingDownTimeout_effect (h : execWindingDownTimeout s = .next t) : Effect s t := by
  unfold execWindingDownTimeout at h
  split at h <;> cases h
  · next hp => exact .sleeps hp.1
  · exact .stays

theorem execShutdownAsserted_effect (h : execShutdownAsserted s = .next t) : Effect s t := by
  unfold execShutdownAsserted at h
  split at h <;> cases h
  · exact .lines _ (.inr ‹_›)
  · exact .shutsAndBuilds _ (.inl ‹_›)
  · exact .shutsAndBuilds _ (.inr ‹_›)
  · next hp => exact .shuts _ (by simp [hp])

theorem execShutdownReleased_effect (h : execShutdownReleased s = .next t) : Effect s t := by
  unfold execShutdownReleased at h
  split at h <;> cases h
  · exact .lines _ (.inr ‹_›)
  all_goals next hp => exact .shuts _ (by simp [hp])

theorem execReleaseEdge_effect {b : Bool} (h : execReleaseEdge b s = .next t) : Effect s t := by
  have unwatched (hu : s.cfg.releaseSource = .plan ∨ s.su.part = .loading ∨ s.su.part = .sleep) : Effect s t := by
    rw [execReleaseEdge_of_unwatched b hu] at h
    cases h; exact .lines _ (.inl rfl)
  have watched (hw : AtWork s) : Effect s t := by
    cases hl : s.cfg.releaseSource with
    | plan => exact unwatched (.inl hl)
    | line =>
      by_cases he : s.cs.lastRelease = b
      · have hsame : (s.withPins { s.pins with release := b }).releaseLevel b = s.withPins { s.pins with release := b } :=
          State.releaseLevel_of_same he
        rw [execReleaseEdge_of_line b hw hl, hsame] at h
        cases h; exact .lines _ (.inl rfl)
      by_cases hs : SelectedEdge s.cfg.releaseEdge b
      · rw [execReleaseEdge_of_selected hw hl he hs] at h
        cases h; exact .releases b hw
      · rw [execReleaseEdge_of_not_selected hw hl hs] at h
        cases h; exact .levels b hw
  cases hp : s.su.part with
  | loading => exact unwatched (.inr (.inl hp))
  | sleep => exact unwatched (.inr (.inr hp))
  | ready => exact watched (.inl hp)
  | windingDown => exact watched (.inr hp)

/-! ### The bus -/

theorem State.hearTelegram_effect (hw : AtWork s) (f : Frame) : Effect s (s.hearTelegram f) := by
  unfold State.hearTelegram
  split
  · exact .clashes hw
  · cases he : (findTopic s.ti.table f.topic).bind (·.consumed) with
    | none => rw [State.takeTelegram_of_unconsumed he]; exact .ignores hw
    | some e =>
      rw [State.takeTelegram_of_consumed he]
      split_ifs
      · exact .rejects _ _ hw
      · exact .rejects _ _ hw
      · exact .accepts e f hw

theorem State.receive_effect (s : State) (bits : List Bool) : Effect s (s.receive bits) := by
  unfold State.receive
  split
  · exact .stays
  split
  · exact .stays
  split
  · exact .stays
  · exact State.hearTelegram_effect (.inl ‹_›) _
  · exact State.hearTelegram_effect (.inr ‹_›) _
  · unfold State.watchTelegram
    split
    · exact .wakes s.pins ‹_›
    · exact .stays

theorem execAttemptStart_effect (h : execAttemptStart s = .next t) : Effect s t := by
  unfold execAttemptStart at h
  split at h
  · next hg =>
    split at h <;> cases h
    · exact .attempts _ ((State.working_iff s).1 hg.1) hg.2.1 hg.2.2 ‹_›
    · exact .stays
  · cases h; exact .stays

theorem execContentionLoss_effect (h : execContentionLoss s = .next t) : Effect s t := by
  unfold execContentionLoss at h
  split at h <;> cases h
  · exact .loses _ ‹_›
  · exact .stays

theorem execTransmitError_effect (h : execTransmitError s = .next t) : Effect s t := by
  unfold execTransmitError at h
  split at h <;> cases h
  · exact .errs _ ‹_›
  · exact .stays

theorem execSilentTimerExpiry_effect (h : execSilentTimerExpiry s = .next t) : Effect s t := by
  unfold execSilentTimerExpiry at h
  split at h <;> cases h
  · exact .reopens ‹_›
  · exact .stays

theorem execCompleteSend_effect (h : execCompleteSend s = .next t) : Effect s t := by
  unfold execCompleteSend at h
  split at h <;> cases h
  · exact .sends _ ‹_›
  · exact .stays

/-! ### The cycle and the timers -/

theorem execCycleTimerExpiry_effect (h : execCycleTimerExpiry s = .next t) : Effect s t := by
  unfold execCycleTimerExpiry at h
  split at h <;> cases h
  · exact .cycles ‹_›
  · exact .stays

theorem execComputationComplete_effect (h : execComputationComplete s = .next t) : Effect s t := by
  unfold execComputationComplete at h
  split at h <;> cases h
  · exact .completes _ ‹_›
  · exact .stays

theorem execEchoDeadlineExpiry_effect {c : Chan} (h : execEchoDeadlineExpiry c s = .next t) : Effect s t := by
  unfold execEchoDeadlineExpiry at h
  split at h <;> cases h
  · exact .expires c ‹_›
  · exact .stays

theorem execAckTimerExpiry_effect (h : execAckTimerExpiry s = .next t) : Effect s t := by
  unfold execAckTimerExpiry at h
  split at h <;> cases h
  · next hg => exact .ackFails hg.1
  · exact .stays

theorem execStartTimerExpiry_effect (h : execStartTimerExpiry s = .next t) : Effect s t := by
  unfold execStartTimerExpiry at h
  split at h <;> cases h
  · next hg => exact .startFails hg.1
  · exact .stays

theorem execStopTimerExpiry_effect (h : execStopTimerExpiry s = .next t) : Effect s t := by
  unfold execStopTimerExpiry at h
  split at h <;> cases h
  · next hg => exact .stopLates hg.1
  · exact .stays

theorem execInhibitHoldExpiry_effect (h : execInhibitHoldExpiry s = .next t) : Effect s t := by
  unfold execInhibitHoldExpiry at h
  split at h <;> cases h
  · next hg => exact .holdEnds hg.1
  · exact .stays

theorem State.becomeHeld_effect (s : State) (k : Kind) : Effect s (s.becomeHeld k) := by
  unfold State.becomeHeld
  split
  · next h _ => exact .helds k (by simp [h])
  · exact .stays

theorem State.stamp_of_agedTo {k : Kind} {x : Freshness} (h : s.agedTo k = some x) : s.ti.slots.stamp k ≠ none := by
  intro hn; simp [State.agedTo, hn] at h

theorem State.becomeStale_effect (s : State) (k : Kind) : Effect s (s.becomeStale k) := by
  unfold State.becomeStale
  split
  · next h =>
    have hstamp := State.stamp_of_agedTo h
    by_cases hk : k = .engine
    · subst hk; exact .engineStales hstamp
    · simp only [if_neg hk]; exact .stales k hstamp hk
  all_goals exact .stays

theorem execFaultRemovalTime_effect {f : TimedFault} {topic : Nat} (h : execFaultRemovalTime f topic s = .next t) : Effect s t := by
  unfold execFaultRemovalTime at h
  split at h <;> cases h
  · exact .forgets f topic _
  · exact .stays

end

/-! ### A step -/

/-- Every command has one of the effects. -/
theorem exec_effect {i : Instr} {s t : State} (h : exec i s = .next t) : Effect s t := by
  cases i with
  | powerOn => cases h; exact .powersOn _
  | resetAsserted => cases h; exact .resets
  | resetReleased => exact execResetReleased_effect h
  | loadComplete r => exact execLoadComplete_effect h
  | loadTimeout => exact execLoadTimeout_effect h
  | ignReleased => exact execIgnReleased_effect h
  | ignAsserted => exact execIgnAsserted_effect h
  | windingDownTimeout => exact execWindingDownTimeout_effect h
  | shutdownAsserted => exact execShutdownAsserted_effect h
  | shutdownReleased => exact execShutdownReleased_effect h
  | releaseEdge b => exact execReleaseEdge_effect h
  | telegramReceived bits => cases h; exact s.receive_effect bits
  | cycleTimerExpiry => exact execCycleTimerExpiry_effect h
  | computationComplete => exact execComputationComplete_effect h
  | attemptStart => exact execAttemptStart_effect h
  | contentionLoss => exact execContentionLoss_effect h
  | transmitError => exact execTransmitError_effect h
  | silentTimerExpiry => exact execSilentTimerExpiry_effect h
  | completeSend => exact execCompleteSend_effect h
  | echoDeadlineExpiry c => exact execEchoDeadlineExpiry_effect h
  | ackTimerExpiry => exact execAckTimerExpiry_effect h
  | startTimerExpiry => exact execStartTimerExpiry_effect h
  | stopTimerExpiry => exact execStopTimerExpiry_effect h
  | inhibitHoldExpiry => exact execInhibitHoldExpiry_effect h
  | slotHeld k => cases h; exact s.becomeHeld_effect k
  | slotStale k => cases h; exact s.becomeStale_effect k
  | faultRemovalTime f topic => exact execFaultRemovalTime_effect h

/-- A step moves the time base, the free choices and the queue alone, or has the effect of the front command. -/
theorem step_cases {s t : State} (h : step s = .next t) :
    (∃ n f p, t = { s with now := n, free := f, pending := p }) ∨ ∃ rest, Effect (s.withPending rest) t := by
  unfold step at h
  split at h
  · cases h; exact .inl ⟨_, _, _, rfl⟩
  · exact .inr ⟨_, exec_effect h⟩

end Sys2Proof.Machine
end

section
/-! PROOFS. The Fault Monitor through every step (L10): each operation changes the fault list by raises and removals alone. -/

namespace Sys2Proof.Machine

/-! ### Changes of the fault list (R167, R168, R171) -/

/-- The fault list after raises and removals of faults of `A` and moves of the rotation, starting from `m`. -/
inductive FaultMon.Edited (A : FaultId → Prop) (m : FaultMon) : FaultMon → Prop
  | same : Edited A m m
  | raise {m' : FaultMon} (h : Edited A m m') (f : FaultId) (now : Nat) (hf : A f) : Edited A m (m'.raise f now)
  | remove {m' : FaultMon} (h : Edited A m m') (f : FaultId) (hf : A f) : Edited A m (m'.remove f)
  | rotate {m' : FaultMon} (h : Edited A m m') : Edited A m { m' with rotation := m'.rotate.2 }

/-- Any fault. -/
def AnyFault (_ : FaultId) : Prop := True

/-- A fault other than CHANNEL_LOST of any channel. -/
def NotLost (f : FaultId) : Prop := ∀ c, f ≠ .channelLost c

/-- A fault of one channel's handshake. -/
def HandshakeFault (f : FaultId) : Prop := ∃ c, f = .channelRecovery c ∨ f = .channelLost c

/-- A fault that the Engine Negotiator or the start of a computation raises and removes. -/
def FaultId.isInner : FaultId → Bool
  | .startFailed | .engineLockedOut | .engineStall | .stopLate | .engineInhibited | .cadenceLost => true
  | .stale _ | .channelRecovery _ | .channelLost _ | .linkSilent | .windowInverted _ | .sourceMismatch _ | .lengthError _ | .conflict _
  | .stationClash | .configDefault | .configClamped _ | .configConflict => false

/-- A fault of the Engine Negotiator or of the start of a computation. -/
def InnerFault (f : FaultId) : Prop := f.isInner = true

theorem FaultMon.Edited.trans {A : FaultId → Prop} {m m' m'' : FaultMon} (h : m.Edited A m') (h' : m'.Edited A m'') :
    m.Edited A m'' := by
  induction h' with
  | same => exact h
  | raise _ f now hf ih => exact ih.raise f now hf
  | remove _ f hf ih => exact ih.remove f hf
  | rotate _ ih => exact ih.rotate

theorem FaultMon.Edited.mono {A B : FaultId → Prop} {m m' : FaultMon} (h : m.Edited A m') (hab : ∀ f, A f → B f) : m.Edited B m' := by
  induction h with
  | same => exact .same
  | raise _ f now hf ih => exact ih.raise f now (hab f hf)
  | remove _ f hf ih => exact ih.remove f (hab f hf)
  | rotate _ ih => exact ih.rotate

theorem FaultMon.Edited.any {A : FaultId → Prop} {m m' : FaultMon} (h : m.Edited A m') : m.Edited AnyFault m' := h.mono fun _ _ => trivial

theorem FaultMon.Edited.notLost {m m' : FaultMon} (h : m.Edited InnerFault m') : m.Edited NotLost m' :=
  h.mono fun f hf c hc => by subst hc; cases hf

/-- What is listed and degrading of the faults that are left alone. -/
theorem FaultMon.Edited.keeps {A : FaultId → Prop} {m m' : FaultMon} (h : m.Edited A m') {f : FaultId} (hf : ¬ A f) :
    m'.listed f = m.listed f ∧ (f ∈ m'.degrading ↔ f ∈ m.degrading) := by
  induction h with
  | same => exact ⟨rfl, Iff.rfl⟩
  | raise _ g now hg ih =>
    have hne : f ≠ g := fun hfg => hf (hfg ▸ hg)
    exact ⟨(FaultMon.listed_raise_of_ne _ now hne).trans ih.1, by rw [FaultMon.mem_degrading_raise]; simpa [hne] using ih.2⟩
  | remove _ g hg ih =>
    have hne : f ≠ g := fun hfg => hf (hfg ▸ hg)
    exact ⟨(FaultMon.listed_remove_of_ne _ hne).trans ih.1, by rw [FaultMon.mem_degrading_remove]; simpa [hne] using ih.2⟩
  | rotate _ ih => exact ih

theorem FaultMon.edited_raise {A : FaultId → Prop} (m : FaultMon) {f : FaultId} (now : Nat) (h : A f) : m.Edited A (m.raise f now) :=
  .raise .same f now h

theorem FaultMon.edited_remove {A : FaultId → Prop} (m : FaultMon) {f : FaultId} (h : A f) : m.Edited A (m.remove f) :=
  .remove .same f h

theorem State.eitherFirst_edited {A : FaultId → Prop} (s : State) {f g : FaultMon → FaultMon} (hf : ∀ m : FaultMon, m.Edited A (f m))
    (hg : ∀ m : FaultMon, m.Edited A (g m)) : s.fm.Edited A (s.eitherFirst f g).fm := by
  rcases s.eitherFirst_fm f g with h | h <;> rw [h]
  · exact (hf _).trans (hg _)
  · exact (hg _).trans (hf _)

theorem State.aroundFault_edited {A : FaultId → Prop} (s : State) {g : FaultMon → FaultMon} {op : State → State}
    (hg : ∀ m : FaultMon, m.Edited A (g m)) (hop : ∀ u : State, u.fm.Edited A (op u).fm) : s.fm.Edited A (s.aroundFault g op).fm := by
  rcases s.aroundFault_fm g op with h | h <;> rw [h]
  · exact (hg _).trans (hop (s.withFm (g s.fm)))
  · exact (hop s).trans (hg _)

/-! ### The list stays sound (L10) -/

theorem FaultMon.listed_eq_false_iff (m : FaultMon) (f : FaultId) : m.listed f = false ↔ f ∉ m.list.map (·.id) := by
  simp [FaultMon.listed]

theorem faultsOk_raise {m : FaultMon} (h : FaultsOk m) (f : FaultId) (now : Nat) : FaultsOk (m.raise f now) := by
  obtain ⟨hlen, hnodup, hcount, hrot, hover, hdeg, hclass⟩ := h
  have hdegs : (m.raise f now).degrading.Nodup ∧ ∀ g ∈ (m.raise f now).degrading, g.isDegrading = true := by
    refine ⟨?_, fun g hg => ((m.mem_degrading_raise ..).1 hg).elim (hclass g) fun ⟨e, hd⟩ => e ▸ hd⟩
    rw [FaultMon.raise_degrading]
    split
    · next hnew => exact List.nodup_append.2 ⟨hdeg, List.nodup_singleton f, by
        intro a ha b hb; rw [List.mem_singleton.1 hb]; rintro rfl; exact hnew.2 ha⟩
    · exact hdeg
  have again (l : List FaultEntry) : (l.map (fun e => if e.id = f then e.again else e)).map (·.id) = l.map (·.id) := by
    rw [List.map_map]; refine List.map_congr_left fun e _ => ?_
    dsimp only [Function.comp]; split <;> rfl
  rcases m.raise_cases f now with ⟨-, hl, ho⟩ | ⟨hnew, hroom, hl, ho⟩ | ⟨-, hfull, hl, ho⟩
  · refine ⟨by simpa [hl] using hlen, by rw [hl, again]; exact hnodup, fun e he => ?_, by simpa using hrot,
      by simpa [hl, ho] using hover, hdegs⟩
    rw [hl] at he
    obtain ⟨x, hx, rfl⟩ := List.mem_map.1 he
    have hbounds := hcount x hx
    split
    · simp only [FaultEntry.again, BetweenNat]; omega
    · exact hbounds
  · refine ⟨by rw [hl, List.length_append, List.length_singleton]; omega, ?_, fun e he => ?_, by simpa using hrot, fun h => ?_, hdegs⟩
    · rw [hl, List.map_append, List.nodup_append]
      refine ⟨hnodup, List.nodup_singleton _, fun a ha b hb => ?_⟩
      rw [List.mem_singleton.1 hb]; rintro rfl
      exact (m.listed_eq_false_iff _).1 hnew ha
    · rw [hl] at he
      rcases List.mem_append.1 he with he | he
      · exact hcount e he
      · rw [List.mem_singleton.1 he]; exact ⟨Nat.le_refl 1, (by decide : 1 ≤ 255)⟩
    · rw [ho] at h; have := hover h; omega
  · exact ⟨by rw [hl]; exact hlen, by rw [hl]; exact hnodup, by rw [hl]; exact hcount, by simpa using hrot,
      fun _ => by rw [hl]; omega, hdegs⟩

theorem faultsOk_remove {m : FaultMon} (h : FaultsOk m) (f : FaultId) : FaultsOk (m.remove f) := by
  obtain ⟨hlen, hnodup, hcount, hrot, hover, hdeg, hclass⟩ := h
  have hle : (m.remove f).list.length ≤ m.list.length := by rw [FaultMon.remove_list]; exact List.length_filter_le ..
  refine ⟨hle.trans hlen, ?_, fun e he => ?_, by simpa using hrot, fun ho => ?_, ?_, fun g hg => ?_⟩
  · rw [FaultMon.remove_list]; exact hnodup.sublist (List.filter_sublist.map _)
  · rw [FaultMon.remove_list] at he; exact hcount e (List.mem_of_mem_filter he)
  · by_cases hchanges : m.listed f = true ∨ f ∈ m.degrading
    · rw [FaultMon.remove_overflow m f hchanges, Bool.and_eq_true, decide_eq_true_eq] at ho
      omega
    · have hsame : m.remove f = m := by unfold FaultMon.remove; rw [if_neg]; simpa using hchanges
      rw [hsame] at ho ⊢; exact hover ho
  · rw [FaultMon.remove_degrading]; exact hdeg.filter _
  · exact hclass g ((m.mem_degrading_remove f g).1 hg).1

/-- R171: the rotation index stays below the length of the list it has gone through. -/
theorem FaultMon.rotate_lt {m : FaultMon} (h : m.list.length ≤ 16) : m.rotate.2 ≤ 15 := by
  unfold FaultMon.rotate
  dsimp only
  split_ifs <;> dsimp only <;> omega

theorem faultsOk_rotate {m : FaultMon} (h : FaultsOk m) : FaultsOk { m with rotation := m.rotate.2 } := by
  obtain ⟨hlen, hnodup, hcount, -, hover, hdeg, hclass⟩ := h
  exact ⟨hlen, hnodup, hcount, FaultMon.rotate_lt hlen, hover, hdeg, hclass⟩

theorem FaultMon.Edited.faultsOk {A : FaultId → Prop} {m m' : FaultMon} (h : m.Edited A m') (hm : FaultsOk m) : FaultsOk m' := by
  induction h with
  | same => exact hm
  | raise _ f now _ ih => exact faultsOk_raise ih f now
  | remove _ f _ ih => exact faultsOk_remove ih f
  | rotate _ ih => exact faultsOk_rotate ih

theorem faultsOk_reset : FaultsOk FaultMon.reset := by decide

/-! ### The operations of the Engine Negotiator and Topic Intake (R137 to R146, R103, R107) -/

section
variable (s : State)

theorem State.raise_edited {A : FaultId → Prop} {f : FaultId} (h : A f) : s.fm.Edited A (s.raise f).fm := s.fm.edited_raise s.now h

theorem State.remove_edited {A : FaultId → Prop} {f : FaultId} (h : A f) : s.fm.Edited A (s.remove f).fm := s.fm.edited_remove h

theorem State.enterRunning_edited : s.fm.Edited InnerFault s.enterRunning.fm :=
  (s.fm.edited_remove (A := InnerFault) (f := .startFailed) rfl).trans (FaultMon.edited_remove _ (f := .engineStall) rfl)

theorem State.enterInhibited_edited : s.fm.Edited InnerFault s.enterInhibited.fm :=
  s.fm.edited_raise (f := .engineInhibited) s.now rfl

/-- R142: what a failed start does to the fault list, where the state it leads to does nothing more to it. -/
theorem State.failedStart_edited {next : State → State} (h : ∀ u, (next u).fm = u.fm) : s.fm.Edited InnerFault (s.failedStart next).fm := by
  have hcount : s.fm.Edited InnerFault s.countFailure.fm := s.fm.edited_raise (f := .startFailed) s.now rfl
  rw [State.failedStart_eq]
  split
  · exact hcount.trans (FaultMon.edited_raise _ (f := .engineLockedOut) s.now rfl)
  · rw [h]; exact hcount

theorem State.followEngine_edited (e : EngineState) {other : State → State} (h : ∀ u, (other u).fm = u.fm) :
    s.fm.Edited InnerFault (s.followEngine e other).fm := by
  cases e with
  | running => exact s.enterRunning_edited
  | cranking => exact .same
  | off | stopping | fault | inhibit => exact h s ▸ .same

theorem State.handStartPending_edited (e : EngineState) : s.fm.Edited InnerFault (s.handStartPending e).fm := by
  cases e with
  | running => exact s.stopAck.enterRunning_edited
  | inhibit => exact s.enterInhibited_edited
  | cranking | off | stopping | fault => exact .same

theorem State.handCranking_edited (e : EngineState) : s.fm.Edited InnerFault (s.handCranking e).fm := by
  cases e with
  | running => exact s.stopStart.enterRunning_edited
  | inhibit => exact s.enterInhibited_edited
  | cranking => exact .same
  | off | stopping | fault => exact s.stopStart.failedStart_edited fun _ => rfl

theorem State.handStopPending_edited (e : EngineState) : s.fm.Edited InnerFault (s.handStopPending e).fm := by
  cases e <;> exact .same

theorem State.takeEngine_edited (e : EngineState) : s.fm.Edited InnerFault (s.takeEngine e).fm := by
  unfold State.takeEngine
  dsimp only
  cases s.en.state with
  | unknown => exact (s.observe e).followEngine_edited e fun _ => rfl
  | stopped => exact (s.observe e).followEngine_edited e fun _ => rfl
  | startPending => exact (s.observe e).handStartPending_edited e
  | cranking => exact (s.observe e).handCranking_edited e
  | running =>
    dsimp only; split
    · exact .same
    · exact (s.observe e).enterStopped.raise_edited rfl
  | withdrawing =>
    dsimp only; split
    · exact (s.observe e).enterInhibited_edited
    · exact .same
  | stopPending => exact (s.observe e).handStopPending_edited e
  | inhibited =>
    dsimp only; split
    · exact ((s.observe e).stopHold.remove_edited (A := InnerFault) (f := .engineInhibited) rfl).trans (State.enterRunning_edited _)
    · exact .same
  | lockedOut => exact .same

theorem State.handEngine_edited (e : EngineState) : s.fm.Edited InnerFault (s.handEngine e).fm := by
  unfold State.handEngine
  split
  · exact s.aroundFault_edited (fun m => m.edited_remove rfl) fun u => u.takeEngine_edited e
  · exact s.takeEngine_edited e

theorem State.engineStale_edited : s.fm.Edited InnerFault s.engineStale.fm := by
  unfold State.engineStale
  cases s.en.state with
  | inhibited => exact s.fm.edited_remove (f := .engineInhibited) rfl
  | unknown | stopped | startPending | cranking | running | withdrawing | stopPending | lockedOut => exact .same

theorem State.endWithdrawal_edited : s.fm.Edited InnerFault s.endWithdrawal.fm := by
  unfold State.endWithdrawal
  dsimp only
  split
  case h_2 => exact State.enterRunning_edited _
  all_goals exact .same

theorem State.engSent_edited (r : Request) : s.fm.Edited InnerFault (s.engSent r).fm := by
  unfold State.engSent
  split_ifs
  · exact s.endWithdrawal_edited
  · exact .same
  · exact .same

theorem windowFault_edited (k : Kind) (f : Frame) (now : Nat) (m : FaultMon) :
    m.Edited (· = .windowInverted f.topic) (windowFault k f now m) := by
  unfold windowFault
  split_ifs
  · exact m.edited_raise now rfl
  · exact m.edited_remove rfl
  · exact .same

theorem State.storeTelegram_edited (k : Kind) (f : Frame) : s.fm.Edited NotLost (s.storeTelegram k f).fm :=
  State.eitherFirst_edited (s.withTi { s.ti with slots := writeSlot s.ti.slots s.now k f }) (fun m => m.edited_remove (by simp [NotLost]))
    fun m => (windowFault_edited k f s.now m).mono fun g hg c hc => by subst hg; cases hc

theorem State.handTelegram_edited (k : Kind) (f : Frame) : s.fm.Edited InnerFault (s.handTelegram k f).fm := by
  unfold State.handTelegram
  cases k with
  | engine =>
    dsimp only; split
    · exact .same
    · exact s.handEngine_edited _
  | demand | battery | mgaEcho | mgbEcho | brake | gearbox | zone | derate => exact .same

theorem timedFaultId_notLost (f : TimedFault) (topic : Nat) : NotLost (timedFaultId f topic) := by cases f <;> simp [NotLost, timedFaultId]

/-! ### The operations of the cycle and of Start-up Control (R30, R82, R166) -/

theorem State.startComputation_edited (t : Trigger) : s.fm.Edited InnerFault (s.startComputation t).fm := by
  cases t with
  | demand => exact s.fm.edited_remove (f := .cadenceLost) rfl
  | timer => exact s.fm.edited_raise (f := .cadenceLost) s.now rfl

theorem State.startRequest_edited (t : Trigger) : s.fm.Edited InnerFault (s.startRequest t).fm := by
  rcases s.startRequest_cases t with ⟨-, h⟩ | ⟨-, -, h⟩ | ⟨-, -, h⟩ <;> rw [h]
  · exact .same
  · exact s.startComputation_edited t
  · exact .same

theorem State.demandTelegram_edited (k : Kind) (f : Frame) : s.fm.Edited InnerFault (s.demandTelegram k f).fm := by
  unfold State.demandTelegram State.demandAccepted
  split_ifs
  · exact .same
  · exact State.startRequest_edited (s.withCs { s.cs with lastSeq := some f.seq }) .demand
  · exact .same

theorem State.takePending_edited : s.fm.Edited InnerFault s.takePending.fm := by
  unfold State.takePending
  split
  · exact State.startComputation_edited (s.withCs { s.cs with pendingStart := none }) _
  · exact .same

theorem conflictUpdate_edited (x : MachineId) (marked : Bool) (now : Nat) (m : FaultMon) :
    m.Edited NotLost (conflictUpdate x marked now m) := by
  unfold conflictUpdate
  split
  · exact m.edited_raise now (by simp [NotLost])
  · exact m.edited_remove (by simp [NotLost])

theorem State.updateConflicts_edited (p : Plan) : s.fm.Edited NotLost (s.updateConflicts p).fm :=
  s.eitherFirst_edited (conflictUpdate_edited .mga _ _) (conflictUpdate_edited .mgb _ _)

theorem State.buildStatus_edited (p : Plan) : s.fm.Edited NotLost (s.buildStatus p).fm := .rotate .same

theorem State.finishPlan_edited (c : Computation) (p : Plan) : s.fm.Edited NotLost (s.finishPlan c p).fm := by
  have hconflicts := (s.withCs { s.cs with back := .complete p, inflight := none }).updateConflicts_edited p
  unfold State.finishPlan
  generalize (s.withCs { s.cs with back := .complete p, inflight := none }).updateConflicts p = u at hconflicts
  have hstatus := ((u.commit c p).buildAll .solo p).buildStatus_edited p
  simp only [State.buildAll_frame, State.commit_frame] at hstatus
  exact hconflicts.trans hstatus

theorem FaultMon.raiseAll_edited {A : FaultId → Prop} (m : FaultMon) {l : List FaultId} (now : Nat) (h : ∀ f ∈ l, A f) :
    m.Edited A (m.raiseAll l now) := by
  induction l generalizing m with
  | nil => exact .same
  | cons f l ih => exact (m.edited_raise now (h f (by simp))).trans (ih _ fun g hg => h g (by simp [hg]))

theorem configFaults_notLost (r : LoadResult) (conflict : Bool) : ∀ f ∈ configFaults r conflict, NotLost f := by
  cases r <;> cases conflict <;> simp [configFaults, NotLost]

theorem State.enterReady_edited : s.fm.Edited NotLost s.enterReady.fm := by
  rw [State.enterReady_eq]; exact s.fm.raiseAll_edited s.now (configFaults_notLost _ _)

theorem FaultMon.removeAll_edited (m : FaultMon) (l : List FaultId) : m.Edited AnyFault (l.foldl FaultMon.remove m) := by
  induction l generalizing m with
  | nil => exact .same
  | cons f l ih => exact (m.edited_remove trivial).trans (ih _)

theorem State.enterSleep_fm : s.enterSleep.fm = sleepFaults.foldl FaultMon.remove s.fm := by
  unfold State.enterSleep; dsimp only; rw [FaultMon.sleep]

theorem State.enterSleep_edited : s.fm.Edited AnyFault s.enterSleep.fm := by
  rw [State.enterSleep_fm]; exact s.fm.removeAll_edited _

theorem State.checkSleep_edited : s.fm.Edited AnyFault s.checkSleep.fm := by
  rcases s.checkSleep_cases with ⟨-, -, -, h⟩ | ⟨-, h⟩ <;> rw [h]
  · exact s.enterSleep_edited
  · exact .same

/-! ### The echo handshake (R121 to R127) -/

theorem State.expireOldest_edited (c : Chan) : s.fm.Edited HandshakeFault (s.expireOldest c).fm := by
  by_cases hidle : (s.cu.get c).hs = .idle
  · have hfm : (s.expireOldest c).fm = s.fm := by simp [State.expireOldest, hidle]
    rw [hfm]; exact .same
  · rw [s.expireOldest_fm c hidle]
    split_ifs
    · exact s.fm.edited_raise s.now ⟨c, .inl rfl⟩
    · exact (s.fm.edited_remove ⟨c, .inl rfl⟩).trans (FaultMon.edited_raise _ s.now ⟨c, .inr rfl⟩)
    · exact s.fm.edited_raise s.now ⟨c, .inr rfl⟩

theorem State.answerChannel_edited (c : Chan) (st : EchoStatus) (rest : List Sent) :
    s.fm.Edited HandshakeFault (s.answerChannel c st rest).fm := by
  unfold State.answerChannel
  dsimp only
  split
  · split
    · split
      · exact s.fm.edited_remove ⟨_, .inr rfl⟩
      · exact .same
    · exact .same
    · exact .same
  · exact s.fm.edited_remove ⟨_, .inl rfl⟩
  · exact .same
  · exact .same

end

end Sys2Proof.Machine
end

section
/-! PROOFS. The echo handshake's operations by their elementary moves (R118 to R127), and the fault list through every step (L10). -/

namespace Sys2Proof.Machine

/-! ### What the elementary moves keep, the operations keep (R120, R121) -/

/-- R118: the channel with a new entry, its deadline still to be formed. -/
def Channel.append (ch : Channel) (e : Sent) : Channel := { ch with
  list := ch.list ++ [e]
  hs := if ch.hs = .idle then .active else ch.hs
  retry := if ch.hs = .idle then 0 else ch.retry }

section
variable {P : State → Prop} {c : Chan}

theorem State.settleDeadline_keeps (hform : ∀ u, P u → P (u.formDeadline c)) (hexpire : ∀ u, P u → P (u.expireOldest c))
    (n : Nat) {s : State} (h : P s) : P (State.settleDeadline n s c) := by
  induction n generalizing s with
  | zero => exact hform s h
  | succ n ih =>
    simp only [State.settleDeadline]
    split
    · exact ih (hexpire _ (hform s h))
    · exact hform s h

theorem State.freshDeadline_keeps (hform : ∀ u, P u → P (u.formDeadline c)) (hexpire : ∀ u, P u → P (u.expireOldest c))
    {s : State} (h : P s) : P (s.freshDeadline c) := State.settleDeadline_keeps hform hexpire _ h

theorem State.expireDeadline_keeps (hform : ∀ u, P u → P (u.formDeadline c)) (hexpire : ∀ u, P u → P (u.expireOldest c))
    {s : State} (h : P s) : P (s.expireDeadline c) := State.freshDeadline_keeps hform hexpire (hexpire s h)

/-- R118: a report that finds room is the new entry and the deadline formed afresh. -/
theorem State.channelSent_of_lt {s : State} (q : SeqNo) (x : Int) (h : (s.cu.get c).list.length < 4) :
    s.channelSent c q x = (s.withChan c ((s.cu.get c).append ⟨q, x, s.now⟩)).freshDeadline c := by
  simp only [State.channelSent, if_neg (Nat.not_le.2 h)]
  congr 2
  simp only [Channel.append]
  split <;> simp

/-- R118, R121: a report to a full list gives up the oldest entry first. -/
theorem State.channelSent_of_ge {s : State} (q : SeqNo) (x : Int) (h : 4 ≤ (s.cu.get c).list.length) : s.channelSent c q x =
    ((s.expireOldest c).withChan c (((s.expireOldest c).cu.get c).append ⟨q, x, s.now⟩)).freshDeadline c := by
  simp only [State.channelSent, if_pos h]
  congr 2
  simp only [Channel.append]
  split <;> simp

theorem State.channelSent_keeps (hform : ∀ u, P u → P (u.formDeadline c)) (hexpire : ∀ u, P u → P (u.expireOldest c))
    (happend : ∀ u e, P u → P (u.withChan c ((u.cu.get c).append e))) (q : SeqNo) (x : Int) {s : State} (h : P s) :
    P (s.channelSent c q x) := by
  rcases Nat.lt_or_ge (s.cu.get c).list.length 4 with hroom | hfull
  · rw [State.channelSent_of_lt q x hroom]
    exact State.freshDeadline_keeps hform hexpire (happend _ _ h)
  · rw [State.channelSent_of_ge q x hfull]
    exact State.freshDeadline_keeps hform hexpire (happend _ _ (hexpire _ h))

/-- R123: an echo routed to a channel is no match, or the answer to an entry with the deadline formed afresh. -/
theorem State.routeEcho_keeps (hform : ∀ u, P u → P (u.formDeadline c)) (hexpire : ∀ u, P u → P (u.expireOldest c))
    (hanswer : ∀ u st older x rest, (u.cu.get c).list = older ++ x :: rest → P u → P (u.answerChannel c st rest))
    (heb : ∀ u o, P u → P (u.withEb o)) (e : EchoWord) (a : Int) {s : State} (h : P s) : P (s.routeEcho c e a) := by
  unfold State.routeEcho
  split
  · exact h
  · next x rest hmatch =>
    obtain ⟨older, hl, -, -⟩ := (matchEcho_iff _ _ _ _).1 hmatch
    have hanswered := hanswer s e.status older x rest hl h
    refine State.freshDeadline_keeps hform hexpire ?_
    unfold State.handOverride
    split
    · exact hanswered
    · exact heb _ _ hanswered

end

/-- R111: an accepted telegram reaches no channel, or routes its echo word to one. -/
theorem State.echoTelegram_cases (s : State) (e : Consumed) (f : Frame) : s.echoTelegram e f = s ∨
    ∃ c w a, e.chan = some c ∧ echoFields e.kind f = some (w, a) ∧ s.echoTelegram e f = s.routeEcho c w a := by
  unfold State.echoTelegram
  split
  · next c w a hc hw => exact .inr ⟨c, w, a, hc, hw, rfl⟩
  · exact .inl rfl
  · exact .inl rfl

/-! ### The fault list (L10) -/

section
variable (s : State)

theorem State.echoTelegram_edited (e : Consumed) (f : Frame) : s.fm.Edited HandshakeFault (s.echoTelegram e f).fm := by
  rcases s.echoTelegram_cases e f with h | ⟨c, w, a, -, -, h⟩ <;> rw [h]
  · exact .same
  · exact State.routeEcho_keeps (P := fun u => s.fm.Edited HandshakeFault u.fm) (fun _ h => h) (fun u h => h.trans (u.expireOldest_edited c))
      (fun u st _ _ rest _ h => h.trans (u.answerChannel_edited c st rest)) (fun _ _ h => h) w a .same

theorem State.expireDeadline_edited (c : Chan) : s.fm.Edited HandshakeFault (s.expireDeadline c).fm :=
  State.expireDeadline_keeps (P := fun u => s.fm.Edited HandshakeFault u.fm) (fun _ h => h)
    (fun u h => h.trans (u.expireOldest_edited c)) .same

theorem State.channelSent_edited (c : Chan) (q : SeqNo) (x : Int) : s.fm.Edited HandshakeFault (s.channelSent c q x).fm :=
  State.channelSent_keeps (P := fun u => s.fm.Edited HandshakeFault u.fm) (fun _ h => h)
    (fun u h => h.trans (u.expireOldest_edited c)) (fun _ _ h => h) q x .same

theorem State.acceptTelegram_edited (e : Consumed) (f : Frame) : s.fm.Edited AnyFault (s.acceptTelegram e f).fm := by
  have hlook : ((s.storeTelegram e.kind f).lookTelegram e.kind f).fm = (s.storeTelegram e.kind f).fm := by simp
  have hstored := (s.storeTelegram_edited e.kind f).any
  rw [← hlook] at hstored
  unfold State.acceptTelegram
  generalize (s.storeTelegram e.kind f).lookTelegram e.kind f = u at hstored
  have hsync : ((u.echoTelegram e f).handTelegram e.kind f).fm =
      (((u.echoTelegram e f).handTelegram e.kind f).syncRequest s.request).fm := by simp
  have hheld := (hstored.trans (u.echoTelegram_edited e f).any).trans (State.handTelegram_edited _ e.kind f).any
  rw [hsync] at hheld
  exact hheld.trans (State.demandTelegram_edited _ _ _).any

theorem State.reportSend_edited (a : Attempt) : s.fm.Edited AnyFault (s.reportSend a).fm := by
  unfold State.reportSend
  split
  · exact .same
  · next sp _ =>
    have hsync (r : Request) : ((s.channelSent .eng a.seq sp.value).engSent sp.request).fm =
        (((s.channelSent .eng a.seq sp.value).engSent sp.request).syncRequest r).fm := by simp
    exact hsync _ ▸ (s.channelSent_edited .eng _ _).any.trans (State.engSent_edited _ _).any
  · exact (s.channelSent_edited .mga _ _).any
  · exact (s.channelSent_edited .mgb _ _).any
  · exact (s.channelSent_edited .fric _ _).any

theorem State.releaseEvent_fm : s.releaseEvent.fm = s.fm := by rw [State.releaseEvent_eq]

theorem State.afterPlan_edited : s.fm.Edited AnyFault s.afterPlan.fm := by
  unfold State.afterPlan
  split
  · have hsleep := s.releaseEvent.checkSleep_edited
    rw [State.releaseEvent_fm] at hsleep
    exact hsleep.trans (State.takePending_edited _).any
  · exact s.takePending_edited.any

theorem State.countError_edited : s.fm.Edited NotLost s.countError.fm := by
  rcases Nat.lt_or_ge (s.bi.errors + 1) 16 with hlt | hge
  · rw [State.countError_of_lt hlt]; exact .same
  · rw [State.countError_of_ge hge]; exact s.fm.edited_raise (f := .linkSilent) s.now (by simp [NotLost])

end

/-- R142: a failed start by a timer changes the fault list as the failed start does. -/
theorem State.syncRequest_edited {A : FaultId → Prop} {m : FaultMon} {s : State} (old : Request) (h : m.Edited A s.fm) :
    m.Edited A (s.syncRequest old).fm := by
  simpa only [State.syncRequest_frame] using h

theorem FaultMon.Edited.checkSleep {A : FaultId → Prop} {m : FaultMon} {s : State} (h : m.Edited A s.fm) :
    m.Edited AnyFault s.checkSleep.fm := h.any.trans s.checkSleep_edited

theorem Effect.faultsOk {s t : State} (h : Effect s t) (hs : FaultsOk s.fm) : FaultsOk t.fm := by
  have edited {A : FaultId → Prop} {m : FaultMon} (he : s.fm.Edited A m) : FaultsOk m := he.faultsOk hs
  cases h with
  | stays | lines | beginsLoad | windsDown | resumes | shuts | levels | attempts | helds => exact hs
  | powersOn | resets => exact faultsOk_reset
  | wakes p => exact (State.enterReady_edited _).faultsOk faultsOk_reset
  | endsLoad cfg r =>
    obtain ⟨-, -, -, -, -, hfm⟩ := s.endLoad_takesForce cfg r
    exact edited (hfm ▸ s.fm.raiseAll_edited s.now (configFaults_notLost _ _))
  | sleeps => exact edited s.enterSleep_edited
  | shutsAndBuilds p => simpa using hs
  | releases b =>
    have hsleep := (s.withLevel b).releaseEvent.checkSleep_edited
    rw [State.releaseEvent_fm] at hsleep
    exact edited hsleep
  | clashes => exact edited (s.raise_edited (A := AnyFault) trivial)
  | ignores => exact edited s.checkSleep_edited
  | rejects f topic => exact edited (FaultMon.Edited.checkSleep (s.raise_edited (A := AnyFault) trivial))
  | accepts e f => exact edited (s.acceptTelegram_edited e f).checkSleep
  | cycles => exact edited (State.startRequest_edited (s.withCs { s.cs with timer := none }) .timer)
  | completes c => exact edited ((s.finishPlan_edited _ _).any.trans (State.afterPlan_edited _))
  | loses a => simpa using hs
  | errs a =>
    have herr := ((s.withBi { s.bi with tx := none }).returnTelegram a.telegram).countError_edited
    simp only [State.returnTelegram_frame] at herr
    exact edited herr
  | reopens => exact edited (State.remove_edited (A := AnyFault) (s.withBi _) (f := .linkSilent) trivial)
  | sends a => exact edited ((s.sendDone a).reportSend_edited a).checkSleep
  | expires c => exact edited (s.expireDeadline_edited c)
  | ackFails => exact edited (State.syncRequest_edited _ (s.stopAck.failedStart_edited (next := State.enterStopped) fun _ => rfl)).checkSleep
  | startFails => exact edited (State.syncRequest_edited _ (s.stopStart.failedStart_edited (next := State.enterStopPending) fun _ => rfl)).checkSleep
  | stopLates => exact edited (s.stopStop.raise_edited (A := AnyFault) (f := .stopLate) trivial)
  | holdEnds =>
    exact edited (FaultMon.Edited.checkSleep (s.stopHold.enterStopped.remove_edited (A := AnyFault) (f := .engineInhibited) trivial))
  | stales k => exact edited (State.raise_edited (A := AnyFault) (s.withTi _) (f := .stale k) trivial)
  | engineStales =>
    have hstale := State.aroundFault_edited
      (s.withTi { s.ti with slots := s.ti.slots.setState .engine .stale, inhibit := .clear })
      (g := fun m => m.raise (.stale .engine) s.now) (op := State.engineStale) (fun m => m.edited_raise s.now trivial)
      fun u => u.engineStale_edited.any
    exact edited (State.syncRequest_edited _ hstale).checkSleep
  | forgets f topic rs => exact edited (State.remove_edited (A := AnyFault) (s.withTi _) trivial)

/-- Settles O55: a step moves the fault list by raises, removals and the rotation alone, or starts it over. -/
theorem faultListStaysSound : Obligations.FaultListStaysSound := by
  intro s t h hs
  rcases step_cases h with ⟨_, _, _, rfl⟩ | ⟨_, he⟩
  · exact hs
  · exact he.faultsOk hs

end Sys2Proof.Machine
end

section
/-! PROOFS. The Engine Negotiator through every step (L12): each timer runs only in the state it belongs to. -/

namespace Sys2Proof.Machine

/-! ### A Negotiator whose timers are stopped -/

/-- Every timer is stopped, and fewer than three starts have failed: what the states without a timer of their own have in common. -/
structure Neg.Idle (n : Neg) : Prop where
  failed : n.failed ≤ 2
  withdrawals : n.withdrawals ≤ 1
  ack : n.ack = none
  start : n.start = none
  stop : n.stop = none
  hold : n.hold = none

section
variable {n : Neg}

theorem NegOk.failed_le (h : NegOk n) (hs : n.state ≠ .lockedOut) : n.failed ≤ 2 := by
  obtain ⟨hle, hlock, -⟩ := h
  have hne : n.failed ≠ 3 := mt hlock.2 hs
  omega

theorem NegOk.withdrawals_le (h : NegOk n) : n.withdrawals ≤ 1 := h.2.2.1

theorem NegOk.ack_eq_none (h : NegOk n) (hs : n.state ≠ .startPending) : n.ack = none := by
  obtain ⟨-, -, -, hack, -⟩ := h
  exact Option.not_isSome_iff_eq_none.1 (mt hack.1 hs)

theorem NegOk.start_eq_none (h : NegOk n) (hs : n.state ≠ .cranking) : n.start = none := by
  obtain ⟨-, -, -, -, hstart, -⟩ := h
  exact Option.not_isSome_iff_eq_none.1 (mt hstart.1 hs)

theorem NegOk.stop_eq_none (h : NegOk n) (hs : n.state ≠ .stopPending) : n.stop = none := by
  obtain ⟨-, -, -, -, -, hstop, -⟩ := h
  exact Option.not_isSome_iff_eq_none.1 (mt hstop hs)

theorem NegOk.hold_eq_none (h : NegOk n) (hs : n.state ≠ .inhibited) : n.hold = none := by
  obtain ⟨-, -, -, -, -, -, hhold⟩ := h
  exact Option.not_isSome_iff_eq_none.1 (mt hhold.1 hs)

/-- The states without a timer of their own. -/
theorem NegOk.idle (h : NegOk n) (hs : n.state = .unknown ∨ n.state = .stopped ∨ n.state = .running ∨ n.state = .withdrawing) :
    n.Idle := by
  have hne : n.state ≠ .lockedOut ∧ n.state ≠ .startPending ∧ n.state ≠ .cranking ∧ n.state ≠ .stopPending ∧ n.state ≠ .inhibited := by
    rcases hs with h | h | h | h <;> simp [h]
  obtain ⟨hlock, hack, hstart, hstop, hhold⟩ := hne
  exact ⟨h.failed_le hlock, h.withdrawals_le, h.ack_eq_none hack, h.start_eq_none hstart, h.stop_eq_none hstop, h.hold_eq_none hhold⟩

/-- An idle Negotiator is sound in every state without a timer of its own. -/
theorem Neg.Idle.negOk (h : n.Idle) (hs : n.state = .unknown ∨ n.state = .stopped ∨ n.state = .running ∨ n.state = .withdrawing ∨
    n.state = .stopPending) : NegOk n := by
  obtain ⟨hfailed, hwith, hack, hstart, hstop, hhold⟩ := h
  refine ⟨by omega, ?_, hwith, ?_, ?_, ?_, ?_⟩
  · constructor
    · intro hl; rw [hl] at hs; simp at hs
    · intro h3; omega
  all_goals simp only [hack, hstart, hstop, hhold]; rcases hs with h | h | h | h | h <;> simp [h]

end

/-! ### The moves of the Negotiator (R137 to R146) -/

section
variable {s : State}

theorem State.enterRunning_negOk (h : s.en.Idle) : NegOk s.enterRunning.en :=
  Neg.Idle.negOk ⟨Nat.zero_le 2, h.withdrawals, h.ack, h.start, h.stop, h.hold⟩ (.inr (.inr (.inl rfl)))

theorem State.enterStopped_negOk (h : s.en.Idle) : NegOk s.enterStopped.en :=
  Neg.Idle.negOk ⟨h.failed, h.withdrawals, h.ack, h.start, h.stop, h.hold⟩ (.inr (.inl rfl))

theorem State.enterCranking_negOk (h : s.en.Idle) : NegOk s.enterCranking.en := by
  obtain ⟨hfailed, hwith, hack, hstart, hstop, hhold⟩ := h
  have hne : s.en.failed ≠ 3 := by omega
  refine ⟨?_, ?_, hwith, ?_, ?_, ?_, ?_⟩ <;> simp [State.enterCranking, *]; omega

theorem State.enterStopPending_negOk (h : s.en.Idle) : NegOk s.enterStopPending.en := by
  obtain ⟨hfailed, hwith, hack, hstart, hstop, hhold⟩ := h
  have hne : s.en.failed ≠ 3 := by omega
  refine ⟨?_, ?_, hwith, ?_, ?_, ?_, ?_⟩ <;> simp [State.enterStopPending, *]; omega

/-- R144: INHIBITED stops the timers of the states it is entered from. -/
theorem State.enterInhibited_negOk (hfailed : s.en.failed ≤ 2) (hstop : s.en.stop = none) : NegOk s.enterInhibited.en := by
  have hne : s.en.failed ≠ 3 := by omega
  refine ⟨?_, ?_, ?_, ?_, ?_, ?_, ?_⟩ <;> simp [State.enterInhibited, *]; omega

/-- R142: a failed start of an idle Negotiator locks it out at the third, and otherwise goes where it leads. -/
theorem State.failedStart_negOk (h : s.en.Idle) {next : State → State} (hnext : ∀ u : State, u.en.Idle → NegOk (next u).en) :
    NegOk (s.failedStart next).en := by
  obtain ⟨hfailed, hwith, hack, hstart, hstop, hhold⟩ := h
  rw [State.failedStart_eq]
  split
  · next hthird =>
    have hthree : s.en.failed + 1 = 3 := by omega
    refine ⟨?_, ?_, hwith, ?_, ?_, ?_, ?_⟩ <;> simp [State.lockOut, State.countFailure, hthree]
  · exact hnext _ ⟨by show s.en.failed + 1 ≤ 2; omega, hwith, hack, hstart, hstop, hhold⟩

theorem State.followEngine_negOk (h : s.en.Idle) (e : EngineState) {other : State → State}
    (hother : NegOk (other s).en) : NegOk (s.followEngine e other).en := by
  cases e with
  | running => exact State.enterRunning_negOk h
  | cranking => exact State.enterCranking_negOk h
  | off | stopping | fault | inhibit => exact hother

theorem State.stopAck_idle (h : NegOk s.en) (hs : s.en.state = .startPending) : s.stopAck.en.Idle :=
  ⟨h.failed_le (by simp [hs]), h.withdrawals_le, rfl, h.start_eq_none (by simp [hs]), h.stop_eq_none (by simp [hs]),
    h.hold_eq_none (by simp [hs])⟩

theorem State.stopStart_idle (h : NegOk s.en) (hs : s.en.state = .cranking) : s.stopStart.en.Idle :=
  ⟨h.failed_le (by simp [hs]), h.withdrawals_le, h.ack_eq_none (by simp [hs]), rfl, h.stop_eq_none (by simp [hs]),
    h.hold_eq_none (by simp [hs])⟩

theorem State.stopStop_idle (h : NegOk s.en) (hs : s.en.state = .stopPending) : s.stopStop.en.Idle :=
  ⟨h.failed_le (by simp [hs]), h.withdrawals_le, h.ack_eq_none (by simp [hs]), h.start_eq_none (by simp [hs]), rfl,
    h.hold_eq_none (by simp [hs])⟩

theorem State.stopHold_idle (h : NegOk s.en) (hs : s.en.state = .inhibited) : s.stopHold.en.Idle :=
  ⟨h.failed_le (by simp [hs]), h.withdrawals_le, h.ack_eq_none (by simp [hs]), h.start_eq_none (by simp [hs]),
    h.stop_eq_none (by simp [hs]), rfl⟩

theorem State.handStartPending_negOk (h : NegOk s.en) (hs : s.en.state = .startPending) (e : EngineState) :
    NegOk (s.handStartPending e).en := by
  cases e with
  | cranking => exact State.enterCranking_negOk (State.stopAck_idle h hs)
  | running => exact State.enterRunning_negOk (State.stopAck_idle h hs)
  | inhibit => exact State.enterInhibited_negOk (h.failed_le (by simp [hs])) (h.stop_eq_none (by simp [hs]))
  | off | stopping | fault => exact h

theorem State.handCranking_negOk (h : NegOk s.en) (hs : s.en.state = .cranking) (e : EngineState) : NegOk (s.handCranking e).en := by
  have hidle := State.stopStart_idle h hs
  cases e with
  | running => exact State.enterRunning_negOk hidle
  | inhibit => exact State.enterInhibited_negOk (h.failed_le (by simp [hs])) (h.stop_eq_none (by simp [hs]))
  | cranking => exact h
  | off | stopping | fault => exact State.failedStart_negOk hidle fun _ => State.enterStopped_negOk

theorem State.handStopPending_negOk (h : NegOk s.en) (hs : s.en.state = .stopPending) (e : EngineState) :
    NegOk (s.handStopPending e).en := by
  cases e with
  | off | fault | inhibit => exact State.enterStopped_negOk (State.stopStop_idle h hs)
  | stopping | running | cranking => exact h

/-- R137 to R146: an engine state handed, by the state it finds. -/
theorem State.takeEngine_negOk (h : NegOk s.en) (e : EngineState) : NegOk (s.takeEngine e).en := by
  have hobs : NegOk (s.observe e).en := h
  unfold State.takeEngine
  cases hs : s.en.state with
  | unknown =>
    have hidle := hobs.idle (.inl hs)
    exact State.followEngine_negOk hidle e (State.enterStopped_negOk hidle)
  | stopped => exact State.followEngine_negOk (hobs.idle (.inr (.inl hs))) e hobs
  | startPending => exact State.handStartPending_negOk hobs hs e
  | cranking => exact State.handCranking_negOk hobs hs e
  | running =>
    dsimp only; split
    · exact hobs
    · exact State.enterStopped_negOk (hobs.idle (.inr (.inr (.inl hs))))
  | withdrawing =>
    dsimp only; split
    · exact State.enterInhibited_negOk (hobs.failed_le (by simp [State.observe, hs])) (hobs.stop_eq_none (by simp [State.observe, hs]))
    · exact hobs
  | stopPending => exact State.handStopPending_negOk hobs hs e
  | inhibited =>
    dsimp only; split
    · exact State.enterRunning_negOk (State.stopHold_idle hobs hs)
    · exact hobs
  | lockedOut => exact hobs

theorem State.handEngine_en (e : EngineState) : (s.handEngine e).en = (s.takeEngine e).en := by
  unfold State.handEngine; split <;> rfl

theorem State.handTelegram_negOk (h : NegOk s.en) (k : Kind) (f : Frame) : NegOk (s.handTelegram k f).en := by
  cases k with
  | engine =>
    simp only [State.handTelegram]
    split
    · exact h
    · rw [State.handEngine_en]; exact State.takeEngine_negOk h _
  | demand | battery | mgaEcho | mgbEcho | brake | gearbox | zone | derate => exact h

/-- A Negotiator set back, its failed starts kept (R137, R149). -/
theorem negOk_reset {n : ℕ} (h : n ≤ 2) : NegOk { Neg.reset with failed := n } := by
  have hne : n ≠ 3 := by omega
  refine ⟨?_, ?_, ?_, ?_, ?_, ?_, ?_⟩ <;> simp [Neg.reset, hne]; omega

/-- R137, R143: where the ENGINE slot goes STALE, the Negotiator is set back, but for a lockout. -/
theorem State.engineStale_en (s : State) : s.engineStale.en =
    if s.en.state = .lockedOut then { s.en with observed := none } else { Neg.reset with failed := s.en.failed } := by
  unfold State.engineStale
  cases hs : s.en.state <;> simp

theorem State.engineStale_negOk (h : NegOk s.en) : NegOk s.engineStale.en := by
  rw [State.engineStale_en]
  split
  · exact h
  · next hs => exact negOk_reset (h.failed_le hs)

theorem negOk_handedOver {n : Neg} (h : NegOk n) (now : Nat) (start stop handback : Bool) : NegOk (n.handedOver now start stop handback) := by
  unfold Neg.handedOver
  split_ifs with h1 h2 h3
  · have hidle := h.idle (.inr (.inl h1.1))
    have hne : n.failed ≠ 3 := by have := hidle.failed; omega
    refine ⟨h.1, ?_, h.withdrawals_le, ?_, ?_, ?_, ?_⟩ <;> simp [hidle.start, hidle.stop, hidle.hold, hne]
  · have hidle := State.stopAck_idle (s := State.reset.withEn n) h h2.1
    exact Neg.Idle.negOk ⟨hidle.failed, Nat.zero_le 1, rfl, hidle.start, hidle.stop, hidle.hold⟩ (.inr (.inr (.inr (.inl rfl))))
  · exact State.enterStopPending_negOk (s := (State.reset.withEn n).withNow now) (h.idle (.inr (.inr (.inl h3.1))))
  · exact h

theorem State.endWithdrawal_negOk (h : s.en.Idle) : NegOk s.endWithdrawal.en := by
  have hidle : (s.withEn { s.en with withdrawals := 0 }).en.Idle := ⟨h.failed, Nat.zero_le 1, h.ack, h.start, h.stop, h.hold⟩
  unfold State.endWithdrawal
  dsimp only
  split
  case h_1 => exact State.enterCranking_negOk hidle
  case h_2 => exact State.enterRunning_negOk hidle
  all_goals exact State.enterStopped_negOk hidle

theorem State.engSent_negOk (h : NegOk s.en) (r : Request) : NegOk (s.engSent r).en := by
  unfold State.engSent
  split_ifs with hw hlast
  · exact State.endWithdrawal_negOk (h.idle (.inr (.inr (.inr hw.1))))
  · obtain ⟨hfailed, hlock, hwith, hrest⟩ := h
    exact ⟨hfailed, hlock, by show s.en.withdrawals + 1 ≤ 1; omega, hrest⟩
  · exact h

theorem negOk_sleep {n : Neg} (h : NegOk n) : NegOk n.sleep := by
  unfold Neg.sleep
  split
  · exact h
  · next hs => exact negOk_reset (h.failed_le hs)

theorem State.checkSleep_negOk (h : NegOk s.en) : NegOk s.checkSleep.en := by
  rcases s.checkSleep_cases with ⟨-, -, -, hs⟩ | ⟨-, hs⟩ <;> rw [hs]
  · exact negOk_sleep h
  · exact h

/-! ### The commands, before the sleep check -/

theorem State.acceptTelegram_negOk (h : NegOk s.en) (e : Consumed) (f : Frame) : NegOk (s.acceptTelegram e f).en := by
  unfold State.acceptTelegram
  simp only [State.demandTelegram_frame, State.syncRequest_frame]
  exact State.handTelegram_negOk (by simpa using h) _ _

theorem State.reportSend_negOk (h : NegOk s.en) (a : Attempt) : NegOk (s.reportSend a).en := by
  unfold State.reportSend
  split
  · exact h
  · simp only [State.syncRequest_frame]
    exact State.engSent_negOk (by simpa using h) _
  all_goals simpa using h

theorem State.releaseEvent_en (s : State) : s.releaseEvent.en = s.en := by rw [State.releaseEvent_eq]

theorem State.finishPlan_negOk (h : NegOk s.en) (c : Computation) (p : Plan) : NegOk (s.finishPlan c p).en := by
  rw [(s.finishPlan_reported c p).handOver]; exact negOk_handedOver h _ _ _ _

theorem State.afterPlan_negOk (h : NegOk s.en) : NegOk s.afterPlan.en := by
  unfold State.afterPlan
  split <;> simp only [State.takePending_frame]
  · exact State.checkSleep_negOk (by rwa [State.releaseEvent_en])
  · exact h

theorem State.ackFails_negOk (h : NegOk s.en) (hs : s.en.state = .startPending) :
    NegOk ((s.stopAck.failedStart State.enterStopped).syncRequest s.request).en := by
  simp only [State.syncRequest_frame]
  exact State.failedStart_negOk (State.stopAck_idle h hs) fun _ => State.enterStopped_negOk

theorem State.startFails_negOk (h : NegOk s.en) (hs : s.en.state = .cranking) :
    NegOk ((s.stopStart.failedStart State.enterStopPending).syncRequest s.request).en := by
  simp only [State.syncRequest_frame]
  exact State.failedStart_negOk (State.stopStart_idle h hs) fun _ => State.enterStopPending_negOk

end

theorem Effect.negOk {s t : State} (h : Effect s t) (hs : NegOk s.en) : NegOk t.en := by
  cases h with
  | stays | lines | beginsLoad | windsDown | resumes | shuts | levels | clashes | helds | stales | reopens | forgets | attempts => exact hs
  | powersOn | resets => exact negOk_reset (Nat.zero_le 2)
  | wakes => unfold State.wake; simp only [State.enterReady_frame]; exact negOk_reset (Nat.zero_le 2)
  | endsLoad => simpa [State.endLoad] using hs
  | sleeps => exact negOk_sleep hs
  | shutsAndBuilds | loses | errs | expires | cycles => simpa using hs
  | releases b => exact State.checkSleep_negOk (by rw [State.releaseEvent_en]; exact hs)
  | ignores => exact State.checkSleep_negOk hs
  | rejects f topic => exact State.checkSleep_negOk (by simpa using hs)
  | accepts e f => exact State.checkSleep_negOk (State.acceptTelegram_negOk hs e f)
  | completes c =>
    have hdone := State.finishPlan_negOk hs c (fillPlan s.cfg c s.cs.back.record)
    unfold State.completeComputation
    exact State.afterPlan_negOk hdone
  | sends a => exact State.checkSleep_negOk (State.reportSend_negOk (s := s.sendDone a) hs a)
  | ackFails h => exact State.checkSleep_negOk (State.ackFails_negOk hs h)
  | startFails h => exact State.checkSleep_negOk (State.startFails_negOk hs h)
  | stopLates h => exact Neg.Idle.negOk (State.stopStop_idle hs h) (.inr (.inr (.inr (.inr h))))
  | holdEnds h => exact State.checkSleep_negOk (State.enterStopped_negOk (State.stopHold_idle hs h))
  | engineStales =>
    refine State.checkSleep_negOk ?_
    simp only [State.syncRequest_frame, State.aroundFault_frame]
    exact State.engineStale_negOk hs

end Sys2Proof.Machine
end

section
/-! PROOFS. The rest of the part (R86, R134, R149, R163, R164, R177): what every step keeps of a part that neither works nor listens. -/

namespace Sys2Proof.Machine

/-! ### Where the part goes -/

/-- A part that is READY or WINDING_DOWN is not at rest. -/
theorem AtWork.not_loading {s : State} (h : AtWork s) : s.su.part ≠ .loading := by rcases h with h | h <;> simp [h]

theorem AtWork.of_part {s t : State} (h : AtWork s) (hp : t.su.part = s.su.part) : AtWork t := by unfold AtWork; rwa [hp]

theorem Startup.afterRelease_part (su : Startup) (p : Plan) : (su.afterRelease p).part = su.part := by
  unfold Startup.afterRelease; split <;> rfl

theorem State.releaseEvent_part (s : State) : s.releaseEvent.su.part = s.su.part := by
  rcases s.releaseEvent_cases with ⟨p, hb, hi, -⟩ | ⟨h, -⟩
  · rw [(State.releaseEvent_swaps hb hi).2, Startup.afterRelease_part]
  · rw [(State.releaseEvent_keeps h).2]

theorem State.enterReady_atWork (s : State) : AtWork s.enterReady := by
  rw [State.enterReady_eq]
  unfold AtWork Startup.atReady
  split <;> simp

/-! ### A part at rest -/

/-- Both invariants of a part at rest. -/
def RestOk (s : State) : Prop := QuietOk s ∧ LoadingOk s

theorem AtWork.restOk {s : State} (h : AtWork s) : RestOk s :=
  ⟨fun hw => by simp [(State.working_iff s).2 h] at hw, fun hl => absurd hl h.not_loading⟩

section
variable {s : State}

/-- R86, R107, R134, R149, R164: the part is quiet from the entry to SLEEP on. -/
theorem State.enterSleep_quiet (h : NegOk s.en) : Quiet s.enterSleep := by
  have ha := s.enterSleep_asleep
  have htimers : s.enterSleep.en.ack = none ∧ s.enterSleep.en.start = none ∧ s.enterSleep.en.stop = none ∧ s.enterSleep.en.hold = none := by
    rw [ha.negotiator]
    split
    · next hl =>
      exact ⟨h.ack_eq_none (by simp [hl]), h.start_eq_none (by simp [hl]), h.stop_eq_none (by simp [hl]), h.hold_eq_none (by simp [hl])⟩
    · exact ⟨rfl, rfl, rfl, rfl⟩
  obtain ⟨hack, hstart, hstop, hhold⟩ := htimers
  exact {
    queue := ha.queue
    link := ha.link
    slots := rfl
    scheduler := ha.scheduler
    plans := ha.plans
    channels := (everyChan_iff _).2 fun c => by
      have hc := (everyChan_iff _).1 ha.channels c
      unfold ChannelQuiet; rw [hc]
    negotiator := by rw [ha.negotiator]; split <;> simp [*]
    timers := ⟨hack, hstart, hstop, hhold, ha.part.2.1⟩ }

theorem State.enterSleep_restOk (h : NegOk s.en) : RestOk s.enterSleep :=
  ⟨fun _ => State.enterSleep_quiet h, fun hl => by simp [s.enterSleep_asleep.part.1] at hl⟩

/-- R178: what a working part leaves is sound at rest, with a sleep that is then due or without one. -/
theorem State.checkSleep_restOk (hw : AtWork s) (h : NegOk s.en) : RestOk s.checkSleep := by
  rcases s.checkSleep_cases with ⟨-, -, -, hs⟩ | ⟨-, hs⟩ <;> rw [hs]
  · exact State.enterSleep_restOk h
  · exact hw.restOk

/-- R86: no pending start outlasts the entry to SLEEP. -/
theorem State.enterSleep_takePending : s.enterSleep.takePending = s.enterSleep := rfl

theorem State.afterPlan_restOk (hw : AtWork s) (h : NegOk s.en) : RestOk s.afterPlan := by
  unfold State.afterPlan
  split
  · rcases s.releaseEvent.checkSleep_cases with ⟨-, -, -, hs⟩ | ⟨-, hs⟩ <;> rw [hs]
    · rw [State.enterSleep_takePending]
      exact State.enterSleep_restOk (by rwa [State.releaseEvent_en])
    · exact (hw.of_part (by simp only [State.takePending_frame, State.releaseEvent_part])).restOk
  · exact (hw.of_part (by simp only [State.takePending_frame])).restOk

/-- R177: power-on and RESET leave the part quiet in LOADING. -/
theorem AtReset.quiet (h : AtReset s) (ht : s.cs.timer = none) (hw : s.su.windTimer = none) (hs : s.ti.slots = .reset) : Quiet s := by
  obtain ⟨hinflight, hpending, hoverrun, -, -⟩ := h.scheduler
  exact {
    queue := h.queue
    link := h.link
    slots := hs
    scheduler := ⟨hinflight, ht, hpending, hoverrun⟩
    plans := h.plans
    channels := h.channels
    negotiator := .inl (by rw [h.negotiator])
    timers := by rw [h.negotiator]; exact ⟨rfl, rfl, rfl, rfl, hw⟩ }

/-- R177: a part whose blocks all hold their reset values. -/
theorem atReset_of_blocks {table : List TopicEntry} {level : Bool} (hbi : s.bi = .reset) (hti : s.ti = .reset table)
    (hcs : s.cs = .reset level) (heb : s.eb = .empty) (hms : s.ms = .reset) (hcu : s.cu = .const .reset) (hen : s.en = .reset) :
    AtReset s where
  queue := by rw [hbi]; exact ⟨rfl, rfl, rfl⟩
  link := by rw [hbi]; exact ⟨rfl, rfl, rfl⟩
  seqs := by rw [hbi]; exact ⟨rfl, rfl⟩
  slots := by rw [hti]; exact (everyKind_iff _).2 fun k => by cases k <;> rfl
  looks := by rw [hti]; exact ⟨rfl, rfl, rfl, rfl⟩
  scheduler := by rw [hcs]; exact ⟨rfl, rfl, rfl, rfl, rfl⟩
  plans := by rw [hcs]; exact ⟨rfl, rfl⟩
  overrides := heb
  mode := hms
  channels := by rw [hcu]; exact (everyChan_iff _).2 fun c => by rw [PerChan.get_const]
  negotiator := hen

/-- Quietness does not rest on the lines, the load, the shut flags, the removal times and the faults. -/
theorem Quiet.congr {t : State} (h : Quiet s) (hbi : t.bi = s.bi) (hslots : t.ti.slots = s.ti.slots) (hcs : t.cs = s.cs)
    (hcu : ∀ c, t.cu.get c = { s.cu.get c with shut := (t.cu.get c).shut }) (hen : t.en = s.en)
    (hwind : t.su.windTimer = s.su.windTimer) : Quiet t where
  queue := hbi ▸ h.queue
  link := hbi ▸ h.link
  slots := hslots ▸ h.slots
  scheduler := hcs ▸ h.scheduler
  plans := hcs ▸ h.plans
  channels := (everyChan_iff _).2 fun c => by
    have hquiet := (everyChan_iff _).1 h.channels c
    have hget := hcu c
    unfold ChannelQuiet at hquiet ⊢
    rw [hquiet] at hget
    exact hget
  negotiator := hen ▸ h.negotiator
  timers := by rw [hen, hwind]; exact h.timers

theorem RestOk.congr {t : State} (h : RestOk s) (hpart : t.su.part = s.su.part) (hbi : t.bi = s.bi) (hslots : t.ti.slots = s.ti.slots)
    (hcs : t.cs = s.cs) (hcu : t.cu = s.cu) (hen : t.en = s.en) (hwind : t.su.windTimer = s.su.windTimer) : RestOk t := by
  refine ⟨fun hw => ?_, fun hl => ?_⟩
  · have hrest : s.working = false := by unfold State.working at hw ⊢; rwa [← hpart]
    exact (h.1 hrest).congr hbi hslots hcs (fun c => by rw [hcu]) hen hwind
  · rw [hcu]; exact h.2 (hpart ▸ hl)

end

/-! ### The effects on a part at rest -/

theorem powersOn_restOk (s : State) (l : Load) : RestOk { State.reset with
    pins := s.pins, su := { State.reset.su with load := l }, free := s.free, pending := s.pending } :=
  ⟨fun _ => (atReset_of_blocks rfl rfl rfl rfl rfl rfl rfl).quiet rfl rfl rfl, fun _ => rfl⟩

theorem resets_restOk (s : State) : RestOk { s.resetBlocks with
    pins := { s.pins with reset := true }, cfg := defaultCfg, su := ⟨.loading, .held, .good, false, none, false, .resetLine⟩, ti := .reset [] } :=
  ⟨fun _ => (atReset_of_blocks rfl rfl rfl rfl rfl rfl rfl).quiet rfl rfl rfl, fun _ => rfl⟩

section
variable {s t : State}

/-- A working part goes on working, enters SLEEP or starts over; whichever it is, the part it leaves is sound at rest. -/
theorem Effect.restOk_of_atWork (h : Effect s t) (hw : AtWork s) (hn : NegOk s.en) (hr : RestOk s) : RestOk t := by
  have works {u : State} (hp : u.su.part = s.su.part) : RestOk u := (hw.of_part hp).restOk
  have sleeps {u : State} (hp : u.su.part = s.su.part) (hu : NegOk u.en) : RestOk u.checkSleep :=
    State.checkSleep_restOk (hw.of_part hp) hu
  cases h with
  | stays => exact hr
  | powersOn l => exact powersOn_restOk s l
  | resets => exact resets_restOk s
  | lines | beginsLoad | attempts | levels | clashes | helds | reopens | forgets => exact works rfl
  | shuts p => exact works rfl
  | windsDown p => exact AtWork.restOk (.inr rfl)
  | resumes p => exact AtWork.restOk (.inl rfl)
  | endsLoad cfg r => exact (State.enterReady_atWork _).restOk
  | wakes p => exact (State.enterReady_atWork _).restOk
  | sleeps => exact State.enterSleep_restOk hn
  | shutsAndBuilds p => exact works (by simp)
  | releases b => exact sleeps (State.releaseEvent_part _) (by rwa [State.releaseEvent_en])
  | ignores => exact sleeps rfl hn
  | rejects f topic => exact sleeps (by simp) (by simpa using hn)
  | accepts e f => exact sleeps (by simp) (State.acceptTelegram_negOk hn e f)
  | cycles => exact works (by simp)
  | completes c =>
    have hdone := State.finishPlan_negOk hn c (fillPlan s.cfg c s.cs.back.record)
    unfold State.completeComputation
    exact State.afterPlan_restOk (hw.of_part (by simp)) hdone
  | loses | errs | expires => exact works (by simp)
  | sends a => exact sleeps (by simp) (State.reportSend_negOk (s := s.sendDone a) hn a)
  | ackFails h => exact sleeps (by simp) (State.ackFails_negOk hn h)
  | startFails h => exact sleeps (by simp) (State.startFails_negOk hn h)
  | stopLates => exact works rfl
  | holdEnds h => exact sleeps rfl (State.enterStopped_negOk (State.stopHold_idle hn h))
  | stales k => exact works rfl
  | engineStales =>
    refine sleeps (by simp) ?_
    simp only [State.syncRequest_frame, State.aroundFault_frame]
    exact State.engineStale_negOk hn

/-- A part at rest is moved by power-on, RESET, the end of its load or a wake; what else reaches it leaves it quiet. -/
theorem Effect.restOk_of_rest (h : Effect s t) (hw : ¬ AtWork s) (hr : RestOk s) : RestOk t := by
  have hq : Quiet s := hr.1 (by rwa [← Bool.not_eq_true, State.working_iff])
  obtain ⟨-, -, htx⟩ := hq.queue
  obtain ⟨hinflight, htimer, -, -⟩ := hq.scheduler
  have hdeadline (c : Chan) : (s.cu.get c).deadline = none := by
    have hc := (everyChan_iff _).1 hq.channels c
    unfold ChannelQuiet at hc; rw [hc]; rfl
  have hstamp (k : Kind) : s.ti.slots.stamp k = none := by rw [hq.slots]; cases k <;> rfl
  have hstate (x : NegState) (hu : x ≠ .unknown) (hl : x ≠ .lockedOut) : s.en.state ≠ x := by
    rcases hq.negotiator with h | h <;> rw [h]
    exacts [hu.symm, hl.symm]
  cases h with
  | stays => exact hr
  | powersOn l => exact powersOn_restOk s l
  | resets => exact resets_restOk s
  | lines p => exact hr.congr rfl rfl rfl rfl rfl rfl rfl
  | beginsLoad p h => exact hr.congr rfl rfl rfl rfl rfl rfl rfl
  | endsLoad cfg r => exact (State.enterReady_atWork _).restOk
  | wakes p => exact (State.enterReady_atWork _).restOk
  | shuts p h =>
    refine ⟨fun _ => hq.congr rfl rfl rfl (fun c => ?_) rfl rfl, fun hl => absurd hl h⟩
    rw [State.takeShut_get]; rfl
  | forgets f topic rs => exact hr.congr rfl rfl rfl rfl rfl rfl rfl
  | windsDown p hp h => exact absurd (.inl h) hw
  | resumes p hp h => exact absurd (.inr h) hw
  | sleeps h => exact absurd (.inr h) hw
  | shutsAndBuilds p h => exact absurd h hw
  | levels b h | releases b h | clashes h | ignores h | rejects f topic h | accepts e f h | attempts x h => exact absurd h hw
  | cycles h => simp [htimer, timerDue] at h
  | completes c h => simp [hinflight] at h
  | loses a h | errs a h | sends a h => simp [htx] at h
  | reopens h => simp [hq.link.2.2, timerDue] at h
  | expires c h => simp [hdeadline, timerDue] at h
  | ackFails h | startFails h | stopLates h | holdEnds h => exact absurd h (hstate _ (by decide) (by decide))
  | helds k h | stales k h | engineStales h => exact absurd (hstamp _) h

theorem Effect.restOk (h : Effect s t) (hn : NegOk s.en) (hr : RestOk s) : RestOk t := by
  by_cases hw : AtWork s
  · exact h.restOk_of_atWork hw hn hr
  · exact h.restOk_of_rest hw hr

theorem settled_iff (s : State) : Settled s ↔ NegOk s.en ∧ RestOk s :=
  ⟨fun h => ⟨h.neg, h.quiet, h.loading⟩, fun ⟨hn, hq, hl⟩ => ⟨hn, hq, hl⟩⟩

/-- Soundness at rest does not rest on the time base, the free choices and the queue. -/
theorem RestOk.idle (h : RestOk s) (n fr : Nat) (p : List Instr) : RestOk { s with now := n, free := fr, pending := p } :=
  h.congr rfl rfl rfl rfl rfl rfl rfl

theorem Settled.withPending (h : Settled s) (p : List Instr) : Settled (s.withPending p) :=
  (settled_iff _).2 ⟨h.neg, RestOk.idle ⟨h.quiet, h.loading⟩ s.now s.free p⟩

end

/-- Settles O56: each effect keeps the Negotiator sound, and leaves the part at work or quiet. -/
theorem partStaysSettled : Obligations.PartStaysSettled := by
  intro s t h
  simp only [settled_iff]
  rcases step_cases h with ⟨n, fr, p, rfl⟩ | ⟨rest, he⟩
  · exact ⟨id, fun ⟨hn, hr⟩ => ⟨hn, hr.idle n fr p⟩⟩
  · exact ⟨he.negOk, fun ⟨hn, hr⟩ => ⟨he.negOk hn, he.restOk hn (hr.idle s.now s.free rest)⟩⟩

end Sys2Proof.Machine
end

section
/-! PROOFS. The channels through every step (L7, L8, R120, R122, R127): each effect leaves the channels as they were but for their shut flags, sets them back, or is one of the three operations of the handshake on one channel. -/

namespace Sys2Proof.Machine

/-! ### The Bus Interface but for the waiting telegrams -/

/-- The Bus Interface with no telegram waiting: its attempt, its link and its sequence numbers. -/
def Bus.wire (b : Bus) : Bus := { b with queue := .const none, statusQ := none }

section
variable (s : State)

@[simp] theorem State.withWaiting_wire (c : Chan) (sp : Option Setpoint) : (s.withWaiting c sp).bi.wire = s.bi.wire := rfl

@[simp] theorem State.syncRequest_wire (old : Request) : (s.syncRequest old).bi.wire = s.bi.wire := by
  rw [State.syncRequest_eq]; rfl

@[simp] theorem State.expireOldest_wire (c : Chan) : (s.expireOldest c).bi.wire = s.bi.wire := by
  rcases s.expireOldest_bi c with h | h <;> rw [h]
  rw [State.rebuildLost_eq]; rfl

@[simp] theorem State.buildAll_wire (m : ChanMode) (p : Plan) : (s.buildAll m p).bi.wire = s.bi.wire := by
  rw [State.buildAll_eq]; rfl

@[simp] theorem State.freshDeadline_wire (c : Chan) : (s.freshDeadline c).bi.wire = s.bi.wire :=
  State.freshDeadline_keeps (P := fun u => u.bi.wire = s.bi.wire) (fun _ h => h) (fun u h => by rw [u.expireOldest_wire, h]) rfl

@[simp] theorem State.expireDeadline_wire (c : Chan) : (s.expireDeadline c).bi.wire = s.bi.wire := by simp [State.expireDeadline]

@[simp] theorem State.channelSent_wire (c : Chan) (q : SeqNo) (x : Int) : (s.channelSent c q x).bi.wire = s.bi.wire :=
  State.channelSent_keeps (P := fun u => u.bi.wire = s.bi.wire) (fun _ h => h) (fun u h => by rw [u.expireOldest_wire, h])
    (fun _ _ h => h) q x rfl

@[simp] theorem State.routeEcho_wire (c : Chan) (e : EchoWord) (a : Int) : (s.routeEcho c e a).bi.wire = s.bi.wire :=
  State.routeEcho_keeps (P := fun u => u.bi.wire = s.bi.wire) (fun _ h => h) (fun u h => by rw [u.expireOldest_wire, h])
    (fun u st _ _ rest _ h => by simpa using h) (fun _ _ h => h) e a rfl

@[simp] theorem State.echoTelegram_wire (e : Consumed) (f : Frame) : (s.echoTelegram e f).bi.wire = s.bi.wire := by
  rcases s.echoTelegram_cases e f with h | ⟨c, w, a, -, -, h⟩ <;> simp [h]

@[simp] theorem State.acceptTelegram_wire (e : Consumed) (f : Frame) : (s.acceptTelegram e f).bi.wire = s.bi.wire := by
  simp [State.acceptTelegram]

@[simp] theorem State.reportSend_wire (a : Attempt) : (s.reportSend a).bi.wire = s.bi.wire := by
  unfold State.reportSend; split <;> simp

@[simp] theorem State.releaseEvent_wire : s.releaseEvent.bi.wire = s.bi.wire := by rw [State.releaseEvent_eq]; rfl

@[simp] theorem State.buildStatus_wire (p : Plan) : (s.buildStatus p).bi.wire = s.bi.wire := rfl

@[simp] theorem State.commit_wire (c : Computation) (p : Plan) : (s.commit c p).bi.wire = s.bi.wire := by
  rw [State.commit_eq, State.syncRequest_wire]; rfl

@[simp] theorem State.finishPlan_wire (c : Computation) (p : Plan) : (s.finishPlan c p).bi.wire = s.bi.wire := by
  simp [State.finishPlan]

@[simp] theorem State.buildShut_wire : s.buildShut.bi.wire = s.bi.wire := by
  have hbuild (u : State) (c : Chan) : (if u.cfg.shutEnable.get c = true then u.build c 0 else u).bi.wire = u.bi.wire := by
    split
    · exact u.withWaiting_wire c _
    · rfl
  simp only [State.buildShut, allChans, List.foldl_cons, List.foldl_nil, hbuild]

@[simp] theorem State.returnTelegram_wire (x : Outgoing) : (s.returnTelegram x).bi.wire = s.bi.wire := by
  cases x with
  | setpoint c sp => rw [State.returnTelegram_setpoint]; rfl
  | status st => rw [State.returnTelegram_status]; rfl

theorem State.returnTelegram_ended_seqs (x : Outgoing) : ((s.withBi { s.bi with tx := none }).returnTelegram x).bi.seqs = s.bi.seqs := by
  rw [State.returnTelegram_ended]; rfl

theorem State.countError_seqs : s.countError.bi.seqs = s.bi.seqs := by
  unfold State.countError; dsimp only; split <;> simp

end

theorem Bus.seqs_of_wire {b b' : Bus} (h : b.wire = b'.wire) : b.seqs = b'.seqs := by
  show b.wire.seqs = b'.wire.seqs
  rw [h]

/-! ### The handshake's operations leave the other channels (R113) -/

section
variable {s : State} {c d : Chan} (h : d ≠ c)
include h

theorem State.formDeadline_get_of_ne : (s.formDeadline c).cu.get d = s.cu.get d := by rw [State.formDeadline_get, if_neg h]

theorem State.answerChannel_get_of_ne (st : EchoStatus) (rest : List Sent) : (s.answerChannel c st rest).cu.get d = s.cu.get d := by
  unfold State.answerChannel
  dsimp only
  (repeat' split) <;> simp [State.withChan_get, h]

theorem State.freshDeadline_get_of_ne : (s.freshDeadline c).cu.get d = s.cu.get d :=
  State.freshDeadline_keeps (P := fun u => u.cu.get d = s.cu.get d) (fun u hu => by rw [State.formDeadline_get_of_ne h, hu])
    (fun u hu => by rw [u.expireOldest_get_of_ne h, hu]) rfl

theorem State.expireDeadline_get_of_ne : (s.expireDeadline c).cu.get d = s.cu.get d := by
  rw [State.expireDeadline, State.freshDeadline_get_of_ne h, s.expireOldest_get_of_ne h]

theorem State.channelSent_get_of_ne (q : SeqNo) (x : Int) : (s.channelSent c q x).cu.get d = s.cu.get d :=
  State.channelSent_keeps (P := fun u => u.cu.get d = s.cu.get d) (fun u hu => by rw [State.formDeadline_get_of_ne h, hu])
    (fun u hu => by rw [u.expireOldest_get_of_ne h, hu]) (fun u e hu => by rw [State.withChan_get, if_neg h, hu]) q x rfl

theorem State.routeEcho_get_of_ne (e : EchoWord) (a : Int) : (s.routeEcho c e a).cu.get d = s.cu.get d :=
  State.routeEcho_keeps (P := fun u => u.cu.get d = s.cu.get d) (fun u hu => by rw [State.formDeadline_get_of_ne h, hu])
    (fun u hu => by rw [u.expireOldest_get_of_ne h, hu]) (fun u st _ _ rest _ hu => by rw [State.answerChannel_get_of_ne h, hu])
    (fun _ _ hu => hu) e a rfl

end

/-! ### What an effect does to the channels -/

/-- CHANNEL_LOST stays as it was through changes of other faults. -/
theorem FaultMon.Edited.channelLost_mem {m m' : FaultMon} (h : m.Edited NotLost m') (c : Chan) :
    .channelLost c ∈ m'.degrading ↔ .channelLost c ∈ m.degrading := (h.keeps fun hf => hf c rfl).2

/-- The handshake's operations on one channel: an echo routed, or the expiry of the deadline. -/
inductive HandshakeMove (s : State) : State → Prop
  | echo (c : Chan) (e : EchoWord) (a : Int) : HandshakeMove s (s.routeEcho c e a)
  | expiry (c : Chan) : HandshakeMove s (s.expireDeadline c)

/-- The channels of `t`, with the sequence numbers, the configuration and the faults they go with, after an effect on `s`. -/
inductive ChannelEffect (s t : State) : Prop
  /-- The channels keep all but their shut flags, and no CHANNEL_LOST is touched; the configuration changes at the end of a load alone. -/
  | kept (hcu : ∀ c, ∃ b, t.cu.get c = { s.cu.get c with shut := b }) (hseqs : t.bi.seqs = s.bi.seqs)
      (hcfg : t.cfg = s.cfg ∨ s.su.part = .loading) (hfm : s.fm.Edited NotLost t.fm)
  /-- The channels are set back, and no CHANNEL_LOST is active. -/
  | quiet (hcu : ∀ c, ChannelQuiet (t.cu.get c)) (hfm : ∀ c, .channelLost c ∉ t.fm.degrading)
  /-- One channel answers an echo or gives up its oldest entry. -/
  | moved {v w : State} (hmove : HandshakeMove v w) (hv : v.cu = s.cu ∧ v.cfg = s.cfg) (hfm : s.fm.Edited NotLost v.fm)
      (ht : t.cu = w.cu ∧ t.cfg = s.cfg ∧ t.bi.seqs = s.bi.seqs) (hfm' : w.fm.Edited NotLost t.fm)
  /-- One channel is told of a complete send. -/
  | sent (a : Attempt) (c : Chan) (sp : Setpoint) (hx : s.bi.tx = some a) (ha : a.telegram = .setpoint c sp)
      (hcu : t.cu = ((s.sendDone a).channelSent c a.seq sp.value).cu) (hcfg : t.cfg = s.cfg)
      (hseqs : t.bi.seqs = s.bi.seqs.set c (s.bi.seqs.get c + 1))
      (hfm : ((s.sendDone a).channelSent c a.seq sp.value).fm.Edited NotLost t.fm)

section
variable {s : State}

theorem ChannelEffect.same {t : State} (hcu : t.cu = s.cu) (hseqs : t.bi.seqs = s.bi.seqs) (hcfg : t.cfg = s.cfg)
    (hfm : s.fm.Edited NotLost t.fm) : ChannelEffect s t :=
  .kept (fun c => ⟨(s.cu.get c).shut, by rw [hcu]⟩) hseqs (.inl hcfg) hfm

/-- What follows a command's work on the channels, and touches neither them nor CHANNEL_LOST. -/
theorem ChannelEffect.congr {t u : State} (h : ChannelEffect s u) (hcu : t.cu = u.cu) (hseqs : t.bi.seqs = u.bi.seqs)
    (hcfg : t.cfg = u.cfg) (hfm : u.fm.Edited NotLost t.fm) : ChannelEffect s t := by
  cases h with
  | kept hcu' hseqs' hcfg' hfm' => exact .kept (hcu ▸ hcu') (hseqs.trans hseqs') (hcfg ▸ hcfg') (hfm'.trans hfm)
  | quiet hcu' hfm' => exact .quiet (hcu ▸ hcu') fun c => (hfm.channelLost_mem c).not.2 (hfm' c)
  | moved hmove hv hfm' ht hfm'' =>
    obtain ⟨htcu, htcfg, htseqs⟩ := ht
    exact .moved hmove hv hfm' ⟨hcu.trans htcu, hcfg.trans htcfg, hseqs.trans htseqs⟩ (hfm''.trans hfm)
  | sent a c sp hx ha hcu' hcfg' hseqs' hfm' =>
    exact .sent a c sp hx ha (hcu.trans hcu') (hcfg.trans hcfg') (hseqs.trans hseqs') (hfm'.trans hfm)

theorem ChannelEffect.asleep (s u : State) : ChannelEffect s u.enterSleep := by
  refine .quiet (fun c => ?_) fun c hc => ?_
  · have hget := (everyChan_iff _).1 u.enterSleep_asleep.channels c
    unfold ChannelQuiet; rw [hget]
  · obtain ⟨-, hdeg, -⟩ := u.enterSleep_asleep.faults
    rw [hdeg] at hc
    simpa [FaultId.endsAtSleep] using (List.mem_filter.1 hc).2

/-- R134: a sleep that follows sets the channels back, whatever the command did to them. -/
theorem ChannelEffect.checkSleep {u : State} (h : ChannelEffect s u) : ChannelEffect s u.checkSleep := by
  rcases u.checkSleep_cases with ⟨-, -, -, hs⟩ | ⟨-, hs⟩ <;> rw [hs]
  · exact .asleep s u
  · exact h

theorem State.acceptTelegram_channelEffect (e : Consumed) (f : Frame) : ChannelEffect s (s.acceptTelegram e f) := by
  have hlook : ((s.storeTelegram e.kind f).lookTelegram e.kind f).fm = (s.storeTelegram e.kind f).fm := by simp
  have hbefore := s.storeTelegram_edited e.kind f
  rw [← hlook] at hbefore
  have hafter (u : State) : u.fm.Edited NotLost (((u.handTelegram e.kind f).syncRequest s.request).demandTelegram e.kind f).fm :=
    ((State.syncRequest_edited _ (u.handTelegram_edited e.kind f)).trans (State.demandTelegram_edited _ _ _)).notLost
  have hseqs : (s.acceptTelegram e f).bi.seqs = s.bi.seqs := Bus.seqs_of_wire (by simp)
  have hcu : (s.acceptTelegram e f).cu = (((s.storeTelegram e.kind f).lookTelegram e.kind f).echoTelegram e f).cu := by
    simp [State.acceptTelegram]
  have hfm := hafter (((s.storeTelegram e.kind f).lookTelegram e.kind f).echoTelegram e f)
  rcases State.echoTelegram_cases ((s.storeTelegram e.kind f).lookTelegram e.kind f) e f with h | ⟨c, w, a, -, -, h⟩
  · rw [h] at hcu hfm
    refine .same (by simpa using hcu) hseqs (by simp) (hbefore.trans ?_)
    simpa only [State.acceptTelegram, h] using hfm
  · rw [h] at hcu hfm
    refine .moved (.echo c w a) (by simp) hbefore ⟨hcu, by simp, hseqs⟩ ?_
    simpa only [State.acceptTelegram, h] using hfm

theorem State.reportSend_channelEffect {a : Attempt} (h : s.bi.tx = some a) : ChannelEffect s ((s.sendDone a).reportSend a) := by
  cases ha : a.telegram with
  | status st =>
    have hdone : (s.sendDone a).reportSend a = s.sendDone a := by simp [State.reportSend, ha]
    rw [hdone]
    exact .same rfl (by simp [State.sendDone, ha, Bus.advance]) rfl .same
  | setpoint c sp =>
    obtain ⟨hcu, -⟩ := State.reportSend_channelSent (s := s.sendDone a) ha
    refine .sent a c sp h ha hcu (by simp) ?_ ?_
    · have hseqs := Bus.seqs_of_wire (State.reportSend_wire (s.sendDone a) a)
      rw [hseqs, State.sendDone_setpoint ha]; rfl
    · rw [State.reportSend_setpoint ha]
      split
      · exact (State.syncRequest_edited _ (State.engSent_edited _ _)).notLost
      · exact .same

theorem State.releaseEvent_cfg : s.releaseEvent.cfg = s.cfg := by rw [State.releaseEvent_eq]

theorem State.releaseEvent_cu : s.releaseEvent.cu = s.cu := by rw [State.releaseEvent_eq]

/-- R89: a release event touches the waiting telegrams alone of what the channels go with. -/
theorem ChannelEffect.releaseEvent {u : State} (h : ChannelEffect s u) : ChannelEffect s u.releaseEvent :=
  h.congr u.releaseEvent_cu (Bus.seqs_of_wire u.releaseEvent_wire) u.releaseEvent_cfg (by rw [u.releaseEvent_fm]; exact .same)

theorem ChannelEffect.takePending {u : State} (h : ChannelEffect s u) : ChannelEffect s u.takePending :=
  h.congr (by simp) (by simp) (by simp) u.takePending_edited.notLost

theorem ChannelEffect.afterPlan {u : State} (h : ChannelEffect s u) : ChannelEffect s u.afterPlan := by
  cases hr : u.cfg.releaseSource with
  | line => rw [State.afterPlan_of_line hr]; exact h.takePending
  | plan => rw [State.afterPlan_of_plan hr]; exact h.releaseEvent.checkSleep.takePending

theorem State.completeComputation_channelEffect (c : Computation) : ChannelEffect s (s.completeComputation c) := by
  have h : ChannelEffect s (s.finishPlan c (fillPlan s.cfg c s.cs.back.record)) :=
    .same (by simp) (Bus.seqs_of_wire (by simp)) (by simp) (s.finishPlan_edited _ _)
  unfold State.completeComputation
  exact h.afterPlan

end

theorem Effect.channelEffect {s t : State} (h : Effect s t) : ChannelEffect s t := by
  have reset (c : Chan) : ChannelQuiet ((PerChan.const Channel.reset).get c) := by rw [PerChan.get_const]
  cases h with
  | stays | lines | beginsLoad | windsDown | resumes | levels | helds => exact .same rfl rfl rfl .same
  | powersOn l => exact .quiet reset fun c => by simp [State.reset, FaultMon.reset]
  | resets => exact .quiet reset fun c => by simp [State.resetBlocks, FaultMon.reset]
  | endsLoad cfg r hl =>
    obtain ⟨-, -, -, -, -, hfm⟩ := s.endLoad_takesForce cfg r
    refine .kept (fun c => ?_) ?_ (.inr hl) (hfm ▸ s.fm.raiseAll_edited s.now (configFaults_notLost _ _))
    · unfold State.endLoad; rw [State.enterReady_eq]; exact ⟨_, State.takeShut_get _ c⟩
    · unfold State.endLoad; rw [State.enterReady_eq]; rfl
  | wakes p =>
    have hw := (s.withPins p).wake_woken
    refine .quiet ((everyChan_iff _).1 hw.reset.channels) fun c hc => ?_
    have hfm : (s.withPins p).wake.fm = FaultMon.raiseAll ⟨[], false, 0, []⟩ _ _ := hw.faults
    rw [hfm, FaultMon.mem_degrading_raiseAll] at hc
    rcases hc with hc | ⟨hc, -⟩
    · cases hc
    · exact configFaults_notLost _ _ _ hc c rfl
  | sleeps => exact .asleep s s
  | shuts p => exact .kept (fun c => ⟨_, State.takeShut_get _ c⟩) rfl (.inl rfl) .same
  | shutsAndBuilds p =>
    refine .kept (fun c => ?_) (Bus.seqs_of_wire (by simp)) (.inl (by simp)) (by simp [FaultMon.Edited.same])
    simp only [State.buildShut_frame]; exact ⟨_, State.takeShut_get _ c⟩
  | releases b => exact (ChannelEffect.same (s := s) (t := s.withLevel b) rfl rfl rfl .same).releaseEvent.checkSleep
  | clashes => exact .same rfl rfl rfl (s.raise_edited (by simp [NotLost]))
  | ignores => exact ChannelEffect.checkSleep (.same rfl rfl rfl .same)
  | rejects f topic => exact ChannelEffect.checkSleep (.same rfl rfl rfl (s.raise_edited (timedFaultId_notLost f topic)))
  | accepts e f => exact (State.acceptTelegram_channelEffect e f).checkSleep
  | cycles => exact .same (by simp) (by simp) (by simp) (State.startRequest_edited (s.withCs { s.cs with timer := none }) .timer).notLost
  | completes c => exact s.completeComputation_channelEffect c
  | attempts x => exact .same rfl (by cases x <;> rfl) rfl .same
  | loses a => exact .same (by simp) (s.returnTelegram_ended_seqs a.telegram) (by simp) (by simp [FaultMon.Edited.same])
  | errs a =>
    have hfm := ((s.withBi { s.bi with tx := none }).returnTelegram a.telegram).countError_edited
    simp only [State.returnTelegram_frame, State.withBi_fm] at hfm
    exact .same (by simp) ((State.countError_seqs _).trans (s.returnTelegram_ended_seqs a.telegram)) (by simp) hfm
  | reopens => exact .same rfl rfl rfl (State.remove_edited (s.withBi _) (f := .linkSilent) (by simp [NotLost]))
  | sends a h => exact (State.reportSend_channelEffect h).checkSleep
  | expires c => exact .moved (.expiry c) ⟨rfl, rfl⟩ .same ⟨rfl, by simp, Bus.seqs_of_wire (by simp)⟩ .same
  | ackFails =>
    have hfm := State.failedStart_edited s.stopAck (next := State.enterStopped) fun _ => rfl
    exact ChannelEffect.checkSleep (.same (by simp) (Bus.seqs_of_wire (by simp)) (by simp) (State.syncRequest_edited _ hfm.notLost))
  | startFails =>
    have hfm := State.failedStart_edited s.stopStart (next := State.enterStopPending) fun _ => rfl
    exact ChannelEffect.checkSleep (.same (by simp) (Bus.seqs_of_wire (by simp)) (by simp) (State.syncRequest_edited _ hfm.notLost))
  | stopLates => exact .same rfl rfl rfl (s.stopStop.raise_edited (f := .stopLate) (by simp [NotLost]))
  | holdEnds =>
    exact ChannelEffect.checkSleep (.same rfl rfl rfl (s.stopHold.enterStopped.remove_edited (f := .engineInhibited) (by simp [NotLost])))
  | stales k => exact .same rfl rfl rfl (State.raise_edited (s.withTi _) (f := .stale k) (by simp [NotLost]))
  | engineStales =>
    have hfm := State.aroundFault_edited (A := NotLost) (s.withTi { s.ti with slots := s.ti.slots.setState .engine .stale, inhibit := .clear })
      (g := fun m => m.raise (.stale .engine) s.now) (fun m => m.edited_raise s.now (by simp [NotLost])) fun u => u.engineStale_edited.notLost
    exact ChannelEffect.checkSleep (.same (by simp) (Bus.seqs_of_wire (by simp)) (by simp) (State.syncRequest_edited _ hfm))
  | forgets f topic rs => exact .same rfl rfl rfl (State.remove_edited (s.withTi _) (timedFaultId_notLost f topic))

end Sys2Proof.Machine
end

section
/-! PROOFS. The handshake, the unanswered-send lists and the deadlines through every step (L7, L8, R120, R122). -/

namespace Sys2Proof.Machine

/-! ### The configuration in force (R175) -/

theorem Effect.cfgOk {s t : State} (h : Effect s t) (hs : CfgOk s.cfg) : CfgOk t.cfg := by
  cases h with
  | powersOn | resets => exact cfgOk_default
  | endsLoad cfg r _ hcfg => simpa [State.endLoad] using hcfg
  | wakes p => simpa [(s.withPins p).wake_woken.kept.1] using hs
  | levels b => exact hs
  | releases b => simp only [State.checkSleep_frame, State.releaseEvent_cfg]; exact hs
  | stays | lines | beginsLoad | windsDown | resumes | sleeps | shuts | shutsAndBuilds | clashes | ignores | rejects
  | accepts | cycles | completes | attempts | loses | errs | reopens | sends | expires | ackFails | startFails | stopLates
  | holdEnds | helds | stales | engineStales | forgets => simpa using hs

/-! ### One channel under the operations of the handshake -/

/-- R124, R125: the channel that a matched echo leaves, its list now `rest`. -/
def Channel.answered (ch : Channel) (st : EchoStatus) (rest : List Sent) : Channel :=
  if ch.hs = .lost ∧ ¬ (st = .applied ∧ 1 ≤ ch.readm) then { ch with list := rest, readm := if st = .applied then ch.readm + 1 else 0 }
  else { ch with list := rest, hs := .active, retry := 0, readm := if ch.hs = .lost then 0 else ch.readm }

theorem State.answerChannel_get (s : State) (c : Chan) (st : EchoStatus) (rest : List Sent) :
    (s.answerChannel c st rest).cu.get c = (s.cu.get c).answered st rest := by
  unfold State.answerChannel Channel.answered
  generalize s.cu.get c = ch
  obtain ⟨hs, sh, l, dl, rt, rd⟩ := ch
  cases hs with
  | lost =>
    cases st with
    | applied =>
      by_cases hr : 1 ≤ rd
      · simp [hr, State.withChan_get]
      · simp [hr, State.withChan_get]
    | clamped | refused => simp [State.withChan_get]
  | idle | active | recovery => simp [State.withChan_get]

/-- R125, R127: an answer ends the fault of the state that the channel leaves. -/
theorem State.answerChannel_fm (s : State) (c : Chan) (st : EchoStatus) (rest : List Sent) : (s.answerChannel c st rest).fm =
    if (s.cu.get c).hs = .recovery then s.fm.remove (.channelRecovery c)
    else if (s.cu.get c).hs = .lost ∧ st = .applied ∧ 1 ≤ (s.cu.get c).readm then s.fm.remove (.channelLost c) else s.fm := by
  unfold State.answerChannel
  generalize s.cu.get c = ch
  obtain ⟨hs, sh, l, dl, rt, rd⟩ := ch
  cases hs with
  | lost =>
    cases st with
    | applied =>
      by_cases hr : 1 ≤ rd
      · simp [hr, State.remove]
      · simp [hr]
    | clamped | refused => simp
  | recovery => simp [State.remove]
  | idle | active => simp

theorem State.expireOldest_of_idle {s : State} {c : Chan} (h : (s.cu.get c).hs = .idle) :
    s.expireOldest c = s.withChan c { s.cu.get c with list := (s.cu.get c).list.tail } := by
  simp only [State.expireOldest, h]

/-- What the operations of the handshake on one channel keep, an echo and an expiry keep. -/
theorem HandshakeMove.keeps {P : State → Prop} (hform : ∀ c u, P u → P (u.formDeadline c)) (hexpire : ∀ c u, P u → P (u.expireOldest c))
    (hanswer : ∀ c u st older x rest, (u.cu.get c).list = older ++ x :: rest → P u → P (u.answerChannel c st rest))
    (heb : ∀ u o, P u → P (u.withEb o)) {v w : State} (h : HandshakeMove v w) (hv : P v) : P w := by
  cases h with
  | echo c e a => exact State.routeEcho_keeps (hform c) (hexpire c) (hanswer c) heb e a hv
  | expiry c => exact State.expireDeadline_keeps (hform c) (hexpire c) hv

/-! ### The handshake states and the counts (L8, R122) -/

section
variable {n : Nat} {ch : Channel}

theorem handshakeOk_quiet (hn : 1 ≤ n) (h : ChannelQuiet ch) : HandshakeOk n ch := by
  rw [h]; simp [HandshakeOk, Channel.reset]; omega

theorem handshakeOk_append (hn : 1 ≤ n) (h : HandshakeOk n ch) (e : Sent) : HandshakeOk n (ch.append e) := by
  obtain ⟨hs, sh, l, dl, rt, rd⟩ := ch
  cases hs <;> simp_all [HandshakeOk, Channel.append] <;> omega

theorem handshakeOk_answered (hn : 1 ≤ n) (h : HandshakeOk n ch) (st : EchoStatus) (rest : List Sent) : HandshakeOk n (ch.answered st rest) := by
  obtain ⟨hle, hlost, hzero, hrec, hreadm, hnot, hidle⟩ := h
  unfold Channel.answered
  split
  · next hl =>
    refine ⟨hle, hlost, hzero, hrec, ?_, fun hne => absurd hl.1 hne, fun hi => by cases hl.1.symm.trans hi⟩
    dsimp only
    split
    · next ha => have := hl.2; simp [ha] at this; omega
    · omega
  · refine ⟨by simp, ?_, fun _ => rfl, by simp, ?_, ?_, by simp⟩
    · simp; omega
    · dsimp only; split <;> omega
    · intro _
      dsimp only
      split
      · rfl
      · exact hnot ‹_›

theorem State.expireOldest_handshakeOk {s : State} {c : Chan} (h : HandshakeOk s.cfg.nRetry (s.cu.get c)) :
    HandshakeOk s.cfg.nRetry ((s.expireOldest c).cu.get c) := by
  obtain ⟨hle, hlost, hzero, hrec, hreadm, hnot, hidle⟩ := h
  by_cases hi : (s.cu.get c).hs = .idle
  · rw [State.expireOldest_of_idle hi, State.withChan_get, if_pos rfl]
    exact ⟨hle, hlost, hzero, hrec, hreadm, hnot, fun h => by simp [hidle h]⟩
  · rw [State.expireOldest_get s c hi]
    by_cases hl : (s.cu.get c).hs = .lost
    · simp_all [HandshakeOk]
    · have hne : (s.cu.get c).retry ≠ s.cfg.nRetry := fun he => hl (hlost.1 he)
      by_cases hx : s.cfg.nRetry ≤ (s.cu.get c).retry + 1
      · simp [HandshakeOk, hl, hx, hnot hl]; omega
      · simp [HandshakeOk, hl, hx, hnot hl]; omega

end

/-- Every channel's handshake is sound, for the configured N_retry. -/
def HandshakesOk (s : State) : Prop := 1 ≤ s.cfg.nRetry ∧ ∀ c, HandshakeOk s.cfg.nRetry (s.cu.get c)

section
variable {s : State} (h : HandshakesOk s) (c : Chan)
include h

theorem HandshakesOk.withChan {ch : Channel} (hch : HandshakeOk s.cfg.nRetry ch) : HandshakesOk (s.withChan c ch) := by
  refine ⟨h.1, fun d => ?_⟩
  rw [State.withChan_get]
  split
  · exact hch
  · exact h.2 d

theorem HandshakesOk.formDeadline : HandshakesOk (s.formDeadline c) := h.withChan c (h.2 c)

theorem HandshakesOk.expireOldest : HandshakesOk (s.expireOldest c) := by
  refine ⟨by simpa using h.1, fun d => ?_⟩
  rw [(s.expireOldest_frame c).2.2.1]
  by_cases hd : d = c
  · rw [hd]; exact State.expireOldest_handshakeOk (h.2 c)
  · rw [s.expireOldest_get_of_ne hd]; exact h.2 d

theorem HandshakesOk.answerChannel (st : EchoStatus) (rest : List Sent) : HandshakesOk (s.answerChannel c st rest) := by
  refine ⟨by simpa using h.1, fun d => ?_⟩
  rw [(s.answerChannel_frame c st rest).2.2.1]
  by_cases hd : d = c
  · rw [hd, State.answerChannel_get]; exact handshakeOk_answered h.1 (h.2 c) st rest
  · rw [State.answerChannel_get_of_ne hd]; exact h.2 d

theorem HandshakesOk.channelSent (q : SeqNo) (x : Int) : HandshakesOk (s.channelSent c q x) :=
  State.channelSent_keeps (P := HandshakesOk) (fun _ hu => hu.formDeadline c) (fun _ hu => hu.expireOldest c)
    (fun _ e hu => hu.withChan c (handshakeOk_append hu.1 (hu.2 c) e)) q x h

end

theorem HandshakeMove.handshakesOk {v w : State} (h : HandshakeMove v w) (hv : HandshakesOk v) : HandshakesOk w :=
  h.keeps (P := HandshakesOk) (fun c _ hu => hu.formDeadline c) (fun c _ hu => hu.expireOldest c)
    (fun c _ st _ _ rest _ hu => hu.answerChannel c st rest) (fun _ _ hu => hu) hv

theorem HandshakesOk.congr {s t : State} (h : HandshakesOk s) (hcu : t.cu = s.cu) (hcfg : t.cfg = s.cfg) : HandshakesOk t := by
  unfold HandshakesOk; rw [hcu, hcfg]; exact h

theorem HandshakeMove.cfg {v w : State} (h : HandshakeMove v w) : w.cfg = v.cfg := by
  cases h <;> simp

theorem Effect.handshakesOk {s t : State} (h : Effect s t) (hl : LoadingOk s) (ht : 1 ≤ t.cfg.nRetry) (hs : HandshakesOk s) :
    HandshakesOk t := by
  cases h.channelEffect with
  | kept hcu _ hcfg _ =>
    refine ⟨ht, fun c => ?_⟩
    obtain ⟨b, hb⟩ := hcu c
    rw [hb]
    rcases hcfg with hcfg | hload
    · rw [hcfg]; exact hs.2 c
    · refine handshakeOk_quiet ht ?_
      rw [hl hload, PerChan.get_const]
  | quiet hcu _ => exact ⟨ht, fun c => handshakeOk_quiet ht (hcu c)⟩
  | moved hmove hv _ htw _ =>
    exact (hmove.handshakesOk (hs.congr hv.1 hv.2)).congr htw.1 (htw.2.1.trans (hv.2.symm.trans hmove.cfg.symm))
  | sent a c sp _ _ hcu hcfg _ _ =>
    exact (HandshakesOk.channelSent (s := s.sendDone a) hs c a.seq sp.value).congr hcu (hcfg.trans (by simp))

/-- Settles O57: each effect keeps every channel's handshake sound, with N_retry at least 1. -/
theorem handshakeStaysSound : Obligations.HandshakeStaysSound := by
  intro s t h hset hcfg hs
  rw [everyChan_iff] at hs ⊢
  rcases step_cases h with ⟨n, fr, p, rfl⟩ | ⟨rest, he⟩
  · exact hs
  · exact (he.handshakesOk hset.loading (he.cfgOk hcfg).echo.2.1 ⟨hcfg.echo.2.1, hs⟩).2

end Sys2Proof.Machine
end

section
/-! PROOFS. The unanswered-send lists and their deadlines (L7, R118, R120), the attempt under way (R162) and the link (R150, R153, R155, R156) through every step. -/

namespace Sys2Proof.Machine

/-! ### The latest sequence numbers (R118) -/

theorem drop_lastSeqs (q : SeqNo) (n k : Nat) : (lastSeqs q n).drop k = lastSeqs q (n - k) := by
  refine List.ext_getElem (by simp [lastSeqs]) fun i h _ => ?_
  simp only [lastSeqs, List.getElem_drop, List.getElem_map, List.getElem_range]
  congr 2
  omega

theorem lastSeqs_succ (q : SeqNo) (n : Nat) : lastSeqs (q + 1) (n + 1) = lastSeqs q n ++ [q] := by
  unfold lastSeqs
  rw [List.range_succ, List.map_append]
  congr 1
  · refine List.map_congr_left fun i hi => ?_
    rw [Nat.succ_sub (Nat.le_of_lt (List.mem_range.1 hi)), Nat.succ_eq_add_one, BitVec.ofNat_add]
    exact add_sub_add_right_eq_sub ..
  · simp

section
variable {q : SeqNo} {ch ch' : Channel}

theorem listOk_of_suffix (h : ListOk q ch) (hl : ch'.list <:+ ch.list) : ListOk q ch' := by
  obtain ⟨hlen, hseq⟩ := h
  obtain ⟨older, hl⟩ := hl
  have hdrop : ch'.list = ch.list.drop older.length := by rw [← hl, List.drop_left]
  have hle : ch'.list.length ≤ 4 := by rw [← hl, List.length_append] at hlen; omega
  refine ⟨hle, ?_⟩
  rw [hdrop, List.map_drop, hseq, drop_lastSeqs, List.length_drop]

theorem listOk_of_nil (h : ch.list = []) : ListOk q ch := by simp [ListOk, h, lastSeqs]

theorem listOk_append (h : ListOk q ch) (hroom : ch.list.length < 4) (x : Int) (now : Nat) : ListOk (q + 1) (ch.append ⟨q, x, now⟩) := by
  have hlist : (ch.append ⟨q, x, now⟩).list = ch.list ++ [⟨q, x, now⟩] := by unfold Channel.append; split <;> rfl
  refine ⟨by rw [hlist, List.length_append]; exact hroom, ?_⟩
  rw [hlist, List.map_append, h.2, List.length_append]
  exact (lastSeqs_succ q _).symm

end

/-- Every channel's list is sound against these sequence numbers. -/
def ListsOk (seqs : PerChan SeqNo) (s : State) : Prop := ∀ c, ListOk (seqs.get c) (s.cu.get c)

section
variable {seqs : PerChan SeqNo} {s : State} (h : ListsOk seqs s) (c : Chan)
include h

/-- An operation on one channel that leaves it a list sound against its number. -/
theorem ListsOk.of_get {t : State} {q : SeqNo} (hc : ListOk q (t.cu.get c)) (hne : ∀ d, d ≠ c → t.cu.get d = s.cu.get d) :
    ListsOk (seqs.set c q) t := by
  intro d
  rw [PerChan.get_set]
  split
  · next hd => rw [hd]; exact hc
  · next hd => rw [hne d hd]; exact h d

theorem ListsOk.of_suffix {t : State} (hc : (t.cu.get c).list <:+ (s.cu.get c).list) (hne : ∀ d, d ≠ c → t.cu.get d = s.cu.get d) :
    ListsOk seqs t := by
  have ht := h.of_get c (listOk_of_suffix (h c) hc) hne
  rwa [PerChan.set_get] at ht

theorem ListsOk.formDeadline : ListsOk seqs (s.formDeadline c) :=
  h.of_suffix c (by rw [State.formDeadline_get, if_pos rfl]) fun _ hd => State.formDeadline_get_of_ne hd

theorem ListsOk.expireOldest : ListsOk seqs (s.expireOldest c) :=
  h.of_suffix c (by rw [State.expireOldest_list]; exact List.tail_suffix _) fun _ hd => s.expireOldest_get_of_ne hd

theorem ListsOk.freshDeadline : ListsOk seqs (s.freshDeadline c) :=
  State.freshDeadline_keeps (P := ListsOk seqs) (fun _ hu => hu.formDeadline c) (fun _ hu => hu.expireOldest c) h

theorem ListsOk.answerChannel {older rest : List Sent} {x : Sent} (st : EchoStatus) (hl : (s.cu.get c).list = older ++ x :: rest) :
    ListsOk seqs (s.answerChannel c st rest) := by
  refine h.of_suffix c ?_ fun _ hd => State.answerChannel_get_of_ne hd st rest
  have hlist : ((s.answerChannel c st rest).cu.get c).list = rest := by
    rw [State.answerChannel_get]; unfold Channel.answered; split <;> rfl
  rw [hlist, hl]
  exact (List.suffix_cons x rest).trans (List.suffix_append older _)

/-- R118: a complete send with the channel's next number leaves the list sound against the number after it. -/
theorem ListsOk.channelSent (x : Int) : ListsOk (seqs.set c (seqs.get c + 1)) (s.channelSent c (seqs.get c) x) := by
  have append (u : State) (hu : ListsOk seqs u) (hroom : (u.cu.get c).list.length < 4) (now : Nat) :
      ListsOk (seqs.set c (seqs.get c + 1)) (u.withChan c ((u.cu.get c).append ⟨seqs.get c, x, now⟩)) :=
    hu.of_get c (by rw [State.withChan_get, if_pos rfl]; exact listOk_append (hu c) hroom x now)
      fun d hd => by rw [State.withChan_get, if_neg hd]
  rcases Nat.lt_or_ge (s.cu.get c).list.length 4 with hroom | hfull
  · rw [State.channelSent_of_lt _ _ hroom]
    exact (append s h hroom _).freshDeadline c
  · rw [State.channelSent_of_ge _ _ hfull]
    refine (append _ (h.expireOldest c) ?_ _).freshDeadline c
    rw [State.expireOldest_list, List.length_tail]
    have := (h c).1
    omega

end

theorem HandshakeMove.listsOk {seqs : PerChan SeqNo} {v w : State} (h : HandshakeMove v w) (hv : ListsOk seqs v) : ListsOk seqs w :=
  h.keeps (P := ListsOk seqs) (fun c _ hu => hu.formDeadline c) (fun c _ hu => hu.expireOldest c)
    (fun c _ st _ _ _ hl hu => hu.answerChannel c st hl) (fun _ _ hu => hu) hv

theorem Effect.listsOk {s t : State} (h : Effect s t) (ha : AttemptOk s.bi) (hs : ListsOk s.bi.seqs s) : ListsOk t.bi.seqs t := by
  cases h.channelEffect with
  | kept hcu hseqs _ _ =>
    intro c
    obtain ⟨b, hb⟩ := hcu c
    rw [hb, hseqs]; exact hs c
  | quiet hcu _ => exact fun c => listOk_of_nil (by rw [hcu c]; rfl)
  | @moved v w hmove hv _ ht _ =>
    have hw := hmove.listsOk (seqs := s.bi.seqs) (by unfold ListsOk; rw [hv.1]; exact hs)
    rw [ht.2.2]; unfold ListsOk; rw [ht.1]; exact hw
  | sent a c sp hx htel hcu _ hseqs _ =>
    have hseq : a.seq = s.bi.seqs.get c := by rw [ha a hx, htel]; rfl
    have hw := ListsOk.channelSent (s := s.sendDone a) hs c sp.value
    rw [← hseq] at hw
    rw [hseqs]; unfold ListsOk; rw [hcu, ← hseq]; exact hw

/-! ### The deadlines (R120) -/

theorem deadlineOk_quiet {timeout : Nat} {ch : Channel} (h : ChannelQuiet ch) : DeadlineOk timeout ch := by rw [h]; rfl

theorem State.settleDeadline_deadlineOk (n : Nat) (s : State) (c : Chan) :
    DeadlineOk s.cfg.echoTimeout ((State.settleDeadline n s c).cu.get c) := by
  have formed (u : State) : DeadlineOk u.cfg.echoTimeout ((u.formDeadline c).cu.get c) := by rw [State.formDeadline_get, if_pos rfl]
  induction n generalizing s with
  | zero => exact formed s
  | succ n ih =>
    simp only [State.settleDeadline]
    split
    · have h := ih ((s.formDeadline c).expireOldest c)
      simpa using h
    · exact formed s

theorem State.freshDeadline_deadlineOk (s : State) (c : Chan) : DeadlineOk s.cfg.echoTimeout ((s.freshDeadline c).cu.get c) :=
  State.settleDeadline_deadlineOk _ s c

/-- Every channel's deadline is that of its oldest entry. -/
def DeadlinesOk (s : State) : Prop := ∀ c, DeadlineOk s.cfg.echoTimeout (s.cu.get c)

/-- An operation on one channel that forms its deadline afresh. -/
theorem DeadlinesOk.of_get {s t : State} (h : DeadlinesOk s) (hcfg : t.cfg = s.cfg) {c : Chan}
    (hc : DeadlineOk t.cfg.echoTimeout (t.cu.get c)) (hne : ∀ d, d ≠ c → t.cu.get d = s.cu.get d) : DeadlinesOk t := by
  intro d
  by_cases hd : d = c
  · rw [hd]; exact hc
  · rw [hne d hd, hcfg]; exact h d

theorem DeadlinesOk.channelSent {s : State} (h : DeadlinesOk s) (c : Chan) (q : SeqNo) (x : Int) : DeadlinesOk (s.channelSent c q x) := by
  refine h.of_get (by simp) (c := c) ?_ fun d hd => State.channelSent_get_of_ne hd q x
  rcases Nat.lt_or_ge (s.cu.get c).list.length 4 with hroom | hfull
  · rw [State.channelSent_of_lt q x hroom, (State.freshDeadline_frame _ c).2.2.1]
    exact State.freshDeadline_deadlineOk _ c
  · rw [State.channelSent_of_ge q x hfull, (State.freshDeadline_frame _ c).2.2.1]
    exact State.freshDeadline_deadlineOk _ c

theorem HandshakeMove.deadlinesOk {v w : State} (h : HandshakeMove v w) (hv : DeadlinesOk v) : DeadlinesOk w := by
  cases h with
  | echo c e a =>
    refine hv.of_get (by simp) (c := c) ?_ fun d hd => State.routeEcho_get_of_ne hd e a
    unfold State.routeEcho
    split
    · exact hv c
    · rw [(State.freshDeadline_frame _ c).2.2.1]; exact State.freshDeadline_deadlineOk _ c
  | expiry c =>
    refine hv.of_get (by simp) (c := c) ?_ fun d hd => State.expireDeadline_get_of_ne hd
    rw [State.expireDeadline, (State.freshDeadline_frame _ c).2.2.1]
    exact State.freshDeadline_deadlineOk _ c

theorem DeadlinesOk.congr {s t : State} (h : DeadlinesOk s) (hcu : t.cu = s.cu) (hcfg : t.cfg = s.cfg) : DeadlinesOk t := by
  unfold DeadlinesOk; rw [hcu, hcfg]; exact h

theorem Effect.deadlinesOk {s t : State} (h : Effect s t) (hl : LoadingOk s) (hs : DeadlinesOk s) : DeadlinesOk t := by
  cases h.channelEffect with
  | kept hcu _ hcfg _ =>
    intro c
    obtain ⟨b, hb⟩ := hcu c
    rw [hb]
    rcases hcfg with hcfg | hload
    · rw [hcfg]; exact hs c
    · refine deadlineOk_quiet ?_
      rw [hl hload, PerChan.get_const]
  | quiet hcu _ => exact fun c => deadlineOk_quiet (hcu c)
  | moved hmove hv _ ht _ => exact (hmove.deadlinesOk (hs.congr hv.1 hv.2)).congr ht.1 (ht.2.1.trans (hv.2.symm.trans hmove.cfg.symm))
  | sent a c sp _ _ hcu hcfg _ _ =>
    exact (DeadlinesOk.channelSent (s := s.sendDone a) hs c a.seq sp.value).congr hcu (hcfg.trans (by simp))

/-! ### The attempt and the link -/

/-- What an effect does to the Bus Interface but for the waiting telegrams. -/
inductive WireEffect (s t : State) : Prop
  | kept (h : t.bi.wire = s.bi.wire)
  | quiet (htx : t.bi.tx = none) (herrors : t.bi.errors = 0) (hlink : t.bi.link = .active) (htimer : t.bi.silentTimer = none)
  | begun (x : Outgoing) (hl : s.bi.link = .active) (h : t.bi.wire = { s.bi.wire with tx := some (x.attempt s.cfg (s.bi.seqOf x)) })
  | ended (h : t.bi.wire = { s.bi.wire with tx := none })
  | erred (a : Attempt) (ha : s.bi.tx = some a) (hlt : s.bi.errors + 1 < 16)
      (h : t.bi.wire = { s.bi.wire with tx := none, errors := s.bi.errors + 1 })
  | silenced (a : Attempt) (ha : s.bi.tx = some a) (hge : 16 ≤ s.bi.errors + 1)
      (h : t.bi.wire = { s.bi.wire with tx := none, errors := s.bi.errors + 1, link := .silent, silentTimer := some (s.now + 50) })
  | reopened (ht : s.bi.silentTimer.isSome = true) (h : t.bi.wire = { s.bi.wire with link := .active, errors := 0, silentTimer := none })
  | sent (a : Attempt) (ha : s.bi.tx = some a) (h : t.bi.wire = { s.bi.wire.advance a.telegram with errors := 0, tx := none })

section
variable {s : State}

theorem WireEffect.asleep (s u : State) : WireEffect s u.enterSleep := .quiet rfl rfl rfl rfl

theorem WireEffect.checkSleep {u : State} (h : WireEffect s u) : WireEffect s u.checkSleep := by
  rcases u.checkSleep_cases with ⟨-, -, -, hs⟩ | ⟨-, hs⟩ <;> rw [hs]
  · exact .asleep s u
  · exact h

theorem WireEffect.congr {t u : State} (h : WireEffect s u) (hbi : t.bi.wire = u.bi.wire) : WireEffect s t := by
  cases h with
  | kept h => exact .kept (hbi.trans h)
  | quiet htx herrors hlink htimer =>
    have hwire {α : Type} (f : Bus → α) : f t.bi.wire = f u.bi.wire := congrArg f hbi
    exact .quiet ((hwire Bus.tx).trans htx) ((hwire Bus.errors).trans herrors) ((hwire Bus.link).trans hlink)
      ((hwire Bus.silentTimer).trans htimer)
  | begun x hl h => exact .begun x hl (hbi.trans h)
  | ended h => exact .ended (hbi.trans h)
  | erred a ha hlt h => exact .erred a ha hlt (hbi.trans h)
  | silenced a ha hge h => exact .silenced a ha hge (hbi.trans h)
  | reopened ht h => exact .reopened ht (hbi.trans h)
  | sent a ha h => exact .sent a ha (hbi.trans h)

theorem WireEffect.afterPlan {u : State} (h : WireEffect s u) : WireEffect s u.afterPlan := by
  have pending {v : State} (hv : WireEffect s v) : WireEffect s v.takePending := hv.congr (by simp)
  cases hr : u.cfg.releaseSource with
  | line => rw [State.afterPlan_of_line hr]; exact pending h
  | plan => rw [State.afterPlan_of_plan hr]; exact pending (h.congr u.releaseEvent_wire).checkSleep

theorem State.completeComputation_wireEffect (c : Computation) : WireEffect s (s.completeComputation c) := by
  have h : WireEffect s (s.finishPlan c (fillPlan s.cfg c s.cs.back.record)) := .kept (by simp)
  unfold State.completeComputation
  exact h.afterPlan

theorem State.returnTelegram_ended_wire (s : State) (x : Outgoing) :
    ((s.withBi { s.bi with tx := none }).returnTelegram x).bi.wire = { s.bi.wire with tx := none } := by
  rw [State.returnTelegram_wire]; rfl

theorem Effect.wireEffect {t : State} (h : Effect s t) : WireEffect s t := by
  cases h with
  | powersOn | resets => exact .quiet rfl rfl rfl rfl
  | wakes p =>
    obtain ⟨he, hl, ht⟩ := (s.withPins p).wake_woken.reset.link
    exact .quiet (s.withPins p).wake_woken.reset.queue.2.2 he hl ht
  | sleeps => exact .asleep s s
  | levels => exact .kept rfl
  | releases b => exact (WireEffect.kept (s := s) (t := (s.withLevel b).releaseEvent) (by rw [State.releaseEvent_wire]; rfl)).checkSleep
  | completes c => exact s.completeComputation_wireEffect c
  | attempts x _ hl => exact .begun x hl (by cases x <;> rfl)
  | loses a => exact .ended (s.returnTelegram_ended_wire a.telegram)
  | errs a ha =>
    have hwire := s.returnTelegram_ended_wire a.telegram
    have hnow : ((s.withBi { s.bi with tx := none }).returnTelegram a.telegram).now = s.now := by simp
    generalize (s.withBi { s.bi with tx := none }).returnTelegram a.telegram = u at hwire hnow
    have herrors : u.bi.errors = s.bi.errors := by show u.bi.wire.errors = s.bi.errors; rw [hwire]; rfl
    rcases Nat.lt_or_ge (u.bi.errors + 1) 16 with hlt | hge
    · refine .erred a ha (herrors ▸ hlt) ?_
      rw [State.countError_of_lt hlt, herrors]
      exact congrArg (fun b => { b with errors := s.bi.errors + 1 }) hwire
    · refine .silenced a ha (herrors ▸ hge) ?_
      rw [State.countError_of_ge hge, herrors, ← hnow]
      exact congrArg (fun b => { b with errors := s.bi.errors + 1, link := .silent, silentTimer := some (u.now + 50) }) hwire
  | reopens h =>
    refine .reopened ?_ (by simp; rfl)
    obtain ⟨d, hd, -⟩ := (timerDue_iff _ _).1 h
    rw [hd]; rfl
  | sends a ha => exact WireEffect.checkSleep (.sent a ha (by rw [State.reportSend_wire, State.sendDone]; cases a.telegram <;> rfl))
  | stays | lines | beginsLoad | windsDown | resumes | shuts | clashes | stopLates | helds | stales | forgets => exact .kept rfl
  | endsLoad cfg r => exact .kept (by simp [State.endLoad])
  | cycles | shutsAndBuilds | expires => exact .kept (by simp)
  | ignores | rejects | accepts | ackFails | startFails | holdEnds | engineStales => exact WireEffect.checkSleep (.kept (by simp))

end

/-- R162: an attempt under way keeps its number, a new one takes the next, and every other effect ends it. -/
theorem Effect.attemptOk {s t : State} (h : Effect s t) (hs : AttemptOk s.bi) : AttemptOk t.bi := by
  have ofWire {b : Bus} (hwire : t.bi.wire = b) (hb : AttemptOk b) : AttemptOk t.bi := by
    show AttemptOk t.bi.wire
    rw [hwire]; exact hb
  cases h.wireEffect with
  | kept h => exact ofWire h hs
  | quiet htx => intro a ha; rw [htx] at ha; cases ha
  | begun x _ h =>
    refine ofWire h fun a ha => ?_
    cases ha
    cases x <;> rfl
  | ended h | erred _ _ _ h | silenced _ _ _ h => exact ofWire h fun a ha => by cases ha
  | reopened _ h => exact ofWire h hs
  | sent _ _ h => exact ofWire h fun a ha => by cases ha

/-- R153, R155, R156: the error count, the link and its timer move together. -/
theorem Effect.linkOk {s t : State} (h : Effect s t) (hs : LinkOk s.bi) : LinkOk t.bi := by
  have ofWire {b : Bus} (hwire : t.bi.wire = b) (hb : LinkOk b) : LinkOk t.bi := by
    show LinkOk t.bi.wire
    rw [hwire]; exact hb
  obtain ⟨hle, hfull, htimer, htx⟩ := hs
  have notSilent {a : Attempt} (ha : s.bi.tx = some a) : s.bi.link ≠ .silent := fun hl => by cases ha.symm.trans (htx hl)
  have below {a : Attempt} (ha : s.bi.tx = some a) : s.bi.errors ≠ 16 := fun he => notSilent ha (hfull.1 he)
  have idle {a : Attempt} (ha : s.bi.tx = some a) : ¬ s.bi.silentTimer.isSome = true := fun ht => notSilent ha (htimer.1 ht)
  cases h.wireEffect with
  | kept h => exact ofWire h ⟨hle, hfull, htimer, htx⟩
  | quiet htx herrors hlink htimer => simp [LinkOk, htx, herrors, hlink, htimer]
  | begun x hl h => exact ofWire h ⟨hle, hfull, htimer, fun hs => by cases hl.symm.trans hs⟩
  | ended h => exact ofWire h ⟨hle, hfull, htimer, fun _ => rfl⟩
  | erred a ha hlt h =>
    exact ofWire h ⟨hlt.le, iff_of_false (fun he => by have : s.bi.errors + 1 = 16 := he; omega) (notSilent ha),
      iff_of_false (idle ha) (notSilent ha), fun _ => rfl⟩
  | silenced a ha hge h =>
    have := below ha
    exact ofWire h ⟨by show s.bi.errors + 1 ≤ 16; omega, iff_of_true (by show s.bi.errors + 1 = 16; omega) rfl, iff_of_true rfl rfl, fun _ => rfl⟩
  | reopened _ h => exact ofWire h (by simp [LinkOk])
  | sent a ha h =>
    refine ofWire h ?_
    cases hx : a.telegram <;> exact ⟨Nat.zero_le _, iff_of_false (by simp) (notSilent ha), iff_of_false (idle ha) (notSilent ha), fun _ => rfl⟩

/-- Settles O58: the numbers of the lists and of the attempt by the effect on the channels and on the bus, and the deadlines formed afresh after each operation. -/
theorem sendListsStaySound : Obligations.SendListsStaySound := by
  intro s t h
  simp only [everyChan_iff]
  rcases step_cases h with ⟨n, fr, p, rfl⟩ | ⟨rest, he⟩
  · exact ⟨id, fun _ => id⟩
  · exact ⟨fun ⟨ha, hl⟩ => ⟨he.attemptOk ha, he.listsOk ha hl⟩, fun hset hd => he.deadlinesOk hset.loading hd⟩

end Sys2Proof.Machine
end

section
/-! PROOFS. The limit envelope and the Mode Selector (spec/02, spec/03): the layers of one quantity combined, and the start and stop that are wanted. -/

namespace Sys2Proof.Machine

/-! ### Windows -/

theorem Window.has_iff (w : Window) (x : Int) : w.has x = true ↔ (∀ l ∈ w.lo, l ≤ x) ∧ (∀ h ∈ w.hi, x ≤ h) := by
  obtain ⟨lo, hi⟩ := w
  cases lo <;> cases hi <;> simp [Window.has]

theorem Window.isEmpty_eq_false_of_has {w : Window} {x : Int} (h : w.has x = true) : w.isEmpty = false := by
  rw [Window.has_iff] at h
  obtain ⟨lo, hi⟩ := w
  cases lo <;> cases hi <;> simp_all [Window.isEmpty]
  omega

theorem Window.clamp_of_has {w : Window} {x : Int} (h : w.has x = true) : w.clamp x = x := by
  rw [Window.has_iff] at h
  obtain ⟨lo, hi⟩ := w
  cases lo <;> cases hi <;> simp_all [Window.clamp]

/-- A value clamped into a window lies between it and any value of the window. -/
theorem Window.clamp_between {w : Window} {t : Int} (ht : w.has t = true) (y : Int) : min y t ≤ w.clamp y ∧ w.clamp y ≤ max y t := by
  rw [Window.has_iff] at ht
  obtain ⟨lo, hi⟩ := w
  cases lo <;> cases hi <;> simp_all [Window.clamp] <;> omega

/-! ### The layers of one quantity combined (R28, R29) -/

/-- R29: whatever lies below, a layer that is not empty leaves a window that is not empty. -/
theorem combineStep_nonempty (acc : Window × Bool) {layer : Window} (h : layer.isEmpty = false) : (combineStep acc layer).1.isEmpty = false := by
  unfold combineStep
  dsimp only
  split
  · obtain ⟨lo, hi⟩ := layer
    cases lo <;> cases hi <;> simp_all [Window.isEmpty]
  · simp_all

/-- R29: the window that a layer leaves lies within the layer's own. -/
theorem has_of_combineStep_has {acc : Window × Bool} {layer : Window} {x : Int} (h : (combineStep acc layer).1.has x = true) :
    layer.has x = true := by
  unfold combineStep at h
  dsimp only at h
  split at h
  · rw [Window.has_iff] at h ⊢
    obtain ⟨lo, hi⟩ := layer
    cases lo <;> cases hi <;> simp_all
  · rw [Window.has_meet, Bool.and_eq_true] at h; exact h.2

theorem combineStep_of_nonempty {acc : Window × Bool} {layer : Window} (h : (acc.1.meet layer).isEmpty = false) :
    combineStep acc layer = (acc.1.meet layer, acc.2) := by
  simp [combineStep, h]

theorem combineStep_open {acc : Window × Bool} (h : acc.1.isEmpty = false) : combineStep acc ⟨none, none⟩ = acc := by
  have hmeet : acc.1.meet ⟨none, none⟩ = acc.1 := by
    obtain ⟨⟨lo, hi⟩, b⟩ := acc
    cases lo <;> cases hi <;> rfl
  rw [combineStep_of_nonempty (by rw [hmeet]; exact h), hmeet]

/-- R28: layers given from the highest-ranked down, combined from the lowest up. -/
def stacked : List Window → Window × Bool
  | [] => (⟨none, none⟩, false)
  | [w] => (w, false)
  | w :: v :: rest => combineStep (stacked (v :: rest)) w

theorem Layers.combine_eq (l : Layers) : l.combine = stacked [l.safety, l.machine, l.battery, l.brake, l.derate, l.calibration] := by
  simp only [Layers.combine, List.foldl_cons, List.foldl_nil, stacked]

theorem stacked_nonempty : ∀ {ws : List Window}, (∀ w ∈ ws, w.isEmpty = false) → (stacked ws).1.isEmpty = false
  | [], _ => rfl
  | [w], h => h w (List.mem_singleton_self w)
  | w :: _ :: _, h => combineStep_nonempty _ (h w (List.mem_cons_self ..))

theorem stacked_open_append {pre ws : List Window} (hpre : ∀ w ∈ pre, w = ⟨none, none⟩) (hws : ∀ w ∈ ws, w.isEmpty = false) (hne : ws ≠ []) :
    stacked (pre ++ ws) = stacked ws := by
  induction pre with
  | nil => rfl
  | cons p pre ih =>
    have ih := ih fun w hw => hpre w (List.mem_cons_of_mem p hw)
    obtain ⟨v, rest, hv⟩ := List.exists_cons_of_ne_nil (List.append_ne_nil_of_right_ne_nil pre hne)
    have hstep : stacked (p :: (pre ++ ws)) = combineStep (stacked (pre ++ ws)) p := by rw [hv]; rfl
    rw [List.cons_append, hstep, ih, hpre p (List.mem_cons_self ..), combineStep_open (stacked_nonempty hws)]

theorem has_of_stacked_has {w : Window} {post : List Window} {x : Int} (h : (stacked (w :: post)).1.has x = true) : w.has x = true := by
  cases post with
  | nil => exact h
  | cons v rest => exact has_of_combineStep_has h

/-- Layers that all hold one value combine without a conflict, to where all of them meet. -/
theorem stacked_has_iff {z : Int} {ws : List Window} (hz : ∀ w ∈ ws, w.has z = true) (x : Int) :
    (stacked ws).1.has x = true ↔ ∀ w ∈ ws, w.has x = true := by
  induction ws generalizing x with
  | nil => simp [stacked, Window.has]
  | cons w rest ih =>
    have ih := ih fun v hv => hz v (List.mem_cons_of_mem w hv)
    cases rest with
    | nil => simp [stacked]
    | cons v rest =>
      have hmeet : ((stacked (v :: rest)).1.meet w).has z = true := by
        rw [Window.has_meet, Bool.and_eq_true]
        exact ⟨(ih z).2 fun u hu => hz u (List.mem_cons_of_mem w hu), hz w (List.mem_cons_self ..)⟩
      have hstep : (stacked (w :: v :: rest)).1 = (stacked (v :: rest)).1.meet w := by
        rw [stacked, combineStep_of_nonempty (Window.isEmpty_eq_false_of_has hmeet)]
      rw [hstep, Window.has_meet, Bool.and_eq_true, ih x, and_comm]
      exact (List.forall_mem_cons (p := fun u : Window => u.has x = true)).symm

/-- Settles O46: the open layers on top change nothing, and the highest layer that is not open keeps the window within its own. -/
theorem finalWindowObeysTheTopLayer : Obligations.FinalWindowObeysTheTopLayer := by
  intro l pre post w hne _ hlist hpre _
  rw [Layers.combine_eq]
  refine ⟨stacked_nonempty hne, fun x hx => ?_⟩
  rw [hlist] at hx hne
  rw [stacked_open_append hpre (fun v hv => hne v (List.mem_append_right pre hv)) (List.cons_ne_nil w post)] at hx
  exact has_of_stacked_has hx

/-! ### Start and stop wanted (R39 to R42) -/

section
variable {cfg : Cfg} {sn : Snapshot} {e : Envelope} {pdem : Int}

theorem startCondition_iff : startCondition cfg sn e pdem = true ↔ engineAvailable sn = true ∧ zoneOf sn.zone ≠ .zeroEmission ∧
    gearOf sn.gear ≠ .reverse ∧ gearOf sn.gear ≠ .park ∧ sn.part ≠ .windingDown ∧ startTrigger cfg sn e pdem = true := by
  simp [startCondition, isWindingDown, and_assoc]

theorem stopAtOnce_iff : stopAtOnce sn = true ↔ zoneOf sn.zone = .zeroEmission ∨ gearOf sn.gear = .reverse ∨ sn.part = .windingDown ∨
    engineAvailable sn = false := by
  simp [stopAtOnce, isWindingDown, or_assoc]

theorem engineAvailable_neg (h : engineAvailable sn = true) : sn.neg ≠ .lockedOut := by
  unfold engineAvailable at h
  split at h
  · simp only [Bool.and_eq_true, bne_iff_ne] at h; exact h.1
  · cases h

/-- R42: what wants a start denies every reason to stop. -/
theorem stopWanted_of_startCondition (h : startCondition cfg sn e pdem = true) : stopWanted cfg sn e pdem = false := by
  obtain ⟨havail, hzone, hreverse, _, hpart, htrigger⟩ := startCondition_iff.1 h
  have hatOnce : stopAtOnce sn = false := by
    rw [Bool.eq_false_iff, Ne, stopAtOnce_iff]
    simp [hzone, hreverse, hpart, havail]
  simp [stopWanted, hatOnce, stopDwell, htrigger]

end

/-- Settles O51: start wanted rests on the start condition, which leaves no reason for a stop. -/
theorem startAndStopAreNeverBothWanted : Obligations.StartAndStopAreNeverBothWanted := by
  intro cfg sn now
  refine ⟨_, rfl, ?_⟩
  have condition (h : (computationFrom cfg sn now).sel.startWanted = true) :
      startCondition cfg sn (buildEnvelope cfg sn) (workingValues cfg sn).pdem = true := by
    have h : startWanted cfg sn (buildEnvelope cfg sn) (workingValues cfg sn).pdem = true := h
    rw [startWanted, Bool.and_eq_true] at h
    exact h.1
  refine ⟨fun ⟨hstart, hstop⟩ => ?_, fun hstart => ?_⟩
  · have hno := stopWanted_of_startCondition (condition hstart)
    cases hno.symm.trans hstop
  · obtain ⟨havail, hzone, _, _, hpart, _⟩ := startCondition_iff.1 (condition hstart)
    exact ⟨fun hz => hzone (by rw [show sn.zone = some .zeroEmission from hz]; rfl), engineAvailable_neg havail, hpart⟩

end Sys2Proof.Machine
end

section
/-! PROOFS. Allocation (spec/04) keeps its commands in their windows (R69) and the battery power where the bases put it (R64, R69). -/

namespace Sys2Proof.Machine

/-! ### What a run rests on, and one step of a pass -/

/-- What the inputs of a run bring with them: windows that are not empty, ENG's and BATT's about 0, and speeds and efficiencies in their ranges. -/
structure RunInput.Sound (a : RunInput) : Prop where
  eng : a.eng.has 0 = true
  mga : a.mga.isEmpty = false
  mgb : a.mgb.isEmpty = false
  pin : ∀ p ∈ a.pin, a.eng.has p = true
  weight : 0 ≤ a.weight ∧ a.weight ≤ 32
  speeds : 0 ≤ a.nc ∧ 0 ≤ a.v
  efficiencies : 0 < a.etaA ∧ 0 < a.etaB
  batt : a.batt = .closed (-a.chg) a.dis

/-- R63, R64, R66: a step moves its source to a value of its own window and its power range, or leaves it. -/
theorem stepSource_cases (a : RunInput) (d : Dir) (r : Run) (s : Source) : ∃ x pm rm,
    (x = r.value s ∨ ((ownWindow a s).has x = true ∧ (powerRange a r s).has x = true)) ∧
    stepSource a d r s = { r.withValue s x with powerMark := pm, regenMark := rm } := by
  by_cases hs : s.Turns a.g
  · have hturns : ¬ (s ≠ .mgb ∧ a.g = 0) := fun hskip => hs.elim hskip.1 (· hskip.2)
    refine ⟨pickValue d (r.value s) (target a r d s) (allowedSet a r d s), _, _, ?_, by rw [stepSource, if_neg hturns]; rfl⟩
    refine (pickValue_has d (r.value s) (target a r d s) (allowedSet a r d s)).imp id fun h => ?_
    rw [allowedSet, Window.has_meet, Window.has_meet, Bool.and_eq_true, Bool.and_eq_true] at h
    exact ⟨h.1, h.2.1⟩
  · refine ⟨r.value s, r.powerMark, r.regenMark, .inl rfl, ?_⟩
    rw [stepSource_of_not_turns d r hs]
    cases s <;> rfl

/-- What the bases establish and every step keeps holds of the run's result. -/
theorem allocate_keeps {P : Run → Prop} {a : RunInput} (hbase : P (baseRun a)) (hstep : ∀ d r s, P r → P (stepSource a d r s)) :
    P (allocate a) := by
  have hpass (d : Dir) (l : List Source) : P (l.foldl (stepSource a d) (baseRun a)) :=
    List.foldlRecOn (motive := P) l _ hbase fun r hr s _ => hstep d r s hr
  unfold allocate runPass
  split_ifs
  · exact hpass _ _
  · exact hpass _ _
  · exact hbase

/-! ### The commands in their windows (R69) -/

/-- The values of a run lie in the final windows. -/
def Run.Within (a : RunInput) (r : Run) : Prop := a.eng.has r.eng = true ∧ a.mga.has r.mga = true ∧ a.mgb.has r.mgb = true

theorem has_of_ownWindow_eng {a : RunInput} {x : Int} (h : (ownWindow a .eng).has x = true) : a.eng.has x = true := by
  unfold ownWindow at h
  dsimp only at h
  split at h
  · rw [Window.has_meet, Bool.and_eq_true] at h; exact h.1
  · exact h

theorem stepSource_within {a : RunInput} (d : Dir) {r : Run} (s : Source) (hr : r.Within a) : (stepSource a d r s).Within a := by
  obtain ⟨heng, hmga, hmgb⟩ := hr
  obtain ⟨x, pm, rm, hx, hstep⟩ := stepSource_cases a d r s
  rw [hstep]
  cases s with
  | eng => exact ⟨hx.elim (fun h => h ▸ heng) fun h => has_of_ownWindow_eng h.1, hmga, hmgb⟩
  | mga => exact ⟨heng, hx.elim (fun h => h ▸ hmga) And.left, hmgb⟩
  | mgb => exact ⟨heng, hmga, hx.elim (fun h => h ▸ hmgb) And.left⟩

/-- R58: the ENG base of HYBRID is a share of at most the whole of the window's upper end. -/
theorem weighted_between {h w : Int} (hh : 0 ≤ h) (hw : 0 ≤ w) (hw' : w ≤ 32) : 0 ≤ trunc (h * w) 32 ∧ trunc (h * w) 32 ≤ h := by
  have hnonneg : 0 ≤ h * w := mul_nonneg hh hw
  refine ⟨trunc_nonneg (by decide) hnonneg, ?_⟩
  obtain ⟨hle, -⟩ := trunc_bounds (b := 32) (by decide) hnonneg
  have : h * w ≤ h * 32 := mul_le_mul_of_nonneg_left hw' hh
  omega

theorem engBase_within {a : RunInput} (h : a.Sound) : a.eng.has (engBase a) = true := by
  unfold engBase
  split
  · next p hp => exact h.pin p hp
  · cases a.mode with
    | ev | handback | engineOnly | safe => exact h.eng
    | series => exact Window.has_clamp _ _ (Window.isEmpty_eq_false_of_has h.eng)
    | hybrid =>
      dsimp only
      split
      · exact h.eng
      · obtain ⟨hlo, hhi⟩ := (Window.has_iff _ _).1 h.eng
        cases hend : a.eng.hi with
        | none => simpa [trunc] using h.eng
        | some e =>
          obtain ⟨h0, he⟩ := weighted_between (hhi e hend) h.weight.1 h.weight.2
          refine (Window.has_iff _ _).2 ⟨fun l hl => (hlo l hl).trans h0, fun u hu => ?_⟩
          rw [hend] at hu
          cases hu
          exact he

/-- R59, steps 3 and 4: the genset torque is MGA's forced value, or lies in MGA's window and in its power range. -/
theorem gensetTa_cases (a : RunInput) : gensetTa a = forcedValue a.mga ∨
    (a.mga.has (gensetTa a) = true ∧ (gensetRange a).has (gensetTa a) = true) := by
  unfold gensetTa
  dsimp only
  split
  · exact .inl rfl
  · next hne =>
    right
    rw [← Bool.and_eq_true, ← Window.has_meet, show maxLo a.mga.lo (gensetRange a).lo = (a.mga.meet (gensetRange a)).lo from rfl]
    generalize a.mga.meet (gensetRange a) = w at hne ⊢
    obtain ⟨lo, hi⟩ := w
    cases lo <;> cases hi <;> simp_all [maxLo, Window.has, Window.isEmpty]

theorem baseRun_within {a : RunInput} (h : a.Sound) : (baseRun a).Within a := by
  refine ⟨engBase_within h, ?_, Window.has_clamp _ _ h.mgb⟩
  have hforced : a.mga.has (forcedValue a.mga) = true := Window.has_clamp _ _ h.mga
  show a.mga.has (mgaBase a) = true
  unfold mgaBase
  split
  · exact (gensetTa_cases a).elim (fun hf => hf ▸ hforced) And.left
  · exact hforced

theorem allocate_within {a : RunInput} (h : a.Sound) : (allocate a).Within a :=
  allocate_keeps (P := Run.Within a) (baseRun_within h) fun d _ s hr => stepSource_within d s hr

/-! ### The battery power (R64, R69) -/

/-- The power account lies in the allowances. -/
def Run.Powered (a : RunInput) (r : Run) : Prop := -a.chg ≤ r.power a ∧ r.power a ≤ a.dis

/-- R17 at any speed: a torque of the range of what another machine's power leaves keeps the sum in the allowance, where that power alone does at standstill. -/
theorem power_between {lo hi p t n η : Int} (hn : 0 ≤ n) (hη : 0 < η) (ht : (torqueRange (lo - p) (hi - p) n η).has t = true)
    (hstill : n = 0 → lo ≤ p ∧ p ≤ hi) : lo ≤ elecPower t n η + p ∧ elecPower t n η + p ≤ hi := by
  rcases hn.eq_or_lt with h0 | hpos
  · rw [elecPower_of_zero η (.inr h0.symm), zero_add]; exact hstill h0.symm
  · rw [torqueRange_eq _ _ η hpos, Window.has_closed_iff] at ht
    have hlo := le_elecPower_of_torqueMin_le hpos hη ht.1
    have hhi := elecPower_le_of_le_torqueMax hpos hη ht.2
    omega

theorem stepSource_powered {a : RunInput} (h : a.Sound) (d : Dir) {r : Run} (s : Source) (hr : r.Powered a) :
    (stepSource a d r s).Powered a := by
  obtain ⟨x, pm, rm, hx, hstep⟩ := stepSource_cases a d r s
  rw [hstep]
  rcases hx with hx | ⟨-, hx⟩
  · rw [hx]; cases s <;> exact hr
  · have hr' : -a.chg ≤ elecPower r.mga a.nc a.etaA + elecPower r.mgb a.v a.etaB ∧
        elecPower r.mga a.nc a.etaA + elecPower r.mgb a.v a.etaB ≤ a.dis := hr
    cases s with
    | eng => exact hr
    | mga =>
      refine power_between h.speeds.1 h.efficiencies.1 hx fun hn => ?_
      rwa [elecPower_of_zero a.etaA (.inr hn), zero_add] at hr'
    | mgb =>
      have hb := power_between h.speeds.2 h.efficiencies.2 hx fun hv => by
        rwa [elecPower_of_zero a.etaB (.inr hv), add_zero] at hr'
      rw [add_comm] at hb
      exact hb

/-- R59, R60: the bases keep the power in the allowances where the forced values alone put it there. -/
theorem baseRun_powered {a : RunInput} (h : a.Sound)
    (hforced : -a.chg ≤ elecPower (forcedValue a.mga) a.nc a.etaA + elecPower (forcedValue a.mgb) a.v a.etaB ∧
      elecPower (forcedValue a.mga) a.nc a.etaA + elecPower (forcedValue a.mgb) a.v a.etaB ≤ a.dis) : (baseRun a).Powered a := by
  show -a.chg ≤ elecPower (mgaBase a) a.nc a.etaA + elecPower (forcedValue a.mgb) a.v a.etaB ∧
    elecPower (mgaBase a) a.nc a.etaA + elecPower (forcedValue a.mgb) a.v a.etaB ≤ a.dis
  unfold mgaBase
  split
  · rcases gensetTa_cases a with hf | ⟨-, hrange⟩
    · rw [hf]; exact hforced
    · refine power_between h.speeds.1 h.efficiencies.1 hrange fun hn => ?_
      rwa [elecPower_of_zero a.etaA (.inr hn), zero_add] at hforced
  · exact hforced

/-- R69: the planned battery power lies in the BATT window where the forced values alone put it there. -/
theorem allocate_power_has {a : RunInput} (h : a.Sound)
    (hforced : a.batt.has (elecPower (forcedValue a.mga) a.nc a.etaA + elecPower (forcedValue a.mgb) a.v a.etaB) = true) :
    a.batt.has ((allocate a).power a) = true := by
  rw [h.batt, Window.has_closed_iff] at hforced ⊢
  exact allocate_keeps (P := Run.Powered a) (baseRun_powered h hforced) fun d _ s hr => stepSource_powered h d s hr

end Sys2Proof.Machine
end

section
/-! PROOFS. The envelope of a computation on fields in their intake ranges (spec/02), and what it makes of the plan: its commands in their windows, the battery power, and the blend pin (L3, L5, L9). -/

namespace Sys2Proof.Machine

/-! ### Fields in their intake ranges (R100) -/

theorem Slot.live_all {α : Type} {p : α → Bool} {s : Slot α} {x : α} (h : s.all p = true) (hx : s.live = some x) : p x = true := by
  cases s with
  | never => cases hx
  | received t st y => cases st <;> cases hx <;> exact h

theorem slots_ok_iff (sl : Slots) : sl.ok = true ↔ sl.demand.all (fun d => decide (Between (-6000) 6000 d)) = true ∧
    sl.battery.all BatteryFields.ok = true ∧ sl.engine.all EngineFields.ok = true ∧ sl.mgaEcho.all (MachineFields.ok 250) = true ∧
    sl.mgbEcho.all (MachineFields.ok 3000) = true ∧ sl.brake.all BrakeFields.ok = true ∧ sl.gearbox.all GearboxFields.ok = true ∧
    sl.derate.all DerateFields.ok = true := by
  simp [Slots.ok, and_assoc]

/-! ### The layer windows (R21 to R27, R34) -/

/-- A window from 0 up: its lower end is 0 and it holds 0. -/
def Window.FromZero (w : Window) : Prop := w.lo = some 0 ∧ w.has 0 = true

theorem fromZero_zero : Window.zero.FromZero := ⟨rfl, rfl⟩

theorem Window.FromZero.lower {w : Window} (h : w.FromZero) (a : Int) : (w.lower a).FromZero := by
  obtain ⟨lo, hi⟩ := w
  obtain ⟨hlo : lo = some 0, -⟩ := h
  subst hlo
  exact ⟨rfl, by simp [Window.lower, Window.has]⟩

theorem safetyWindow_has_zero (hs : Handshake) (shut : Bool) : (safetyWindow hs shut).has 0 = true := by
  unfold safetyWindow; split <;> rfl

theorem engMachineWindow_fromZero {s : Slot EngineFields} (h : s.all EngineFields.ok = true) : (engMachineWindow s).FromZero := by
  unfold engMachineWindow
  split
  · next f hf =>
    split
    · have hok := Slot.live_all h hf
      simp only [EngineFields.ok, decide_eq_true_eq] at hok
      refine ⟨rfl, (Window.has_iff _ _).2 ⟨fun l hl => ?_, fun e he => (hok.1 e he).1⟩⟩
      cases hl; exact le_rfl
    · exact fromZero_zero
  · exact fromZero_zero

theorem overrideEng_fromZero {w : Window} (h : w.FromZero) (o : Option Override) : (overrideEng o w).FromZero := by
  unfold overrideEng
  (repeat' split)
  · exact h
  · exact fromZero_zero
  · exact h.lower _
  · exact h
  · exact h

/-- R34: an override of a window that is not empty leaves one that is not. -/
theorem overrideMachine_nonempty {w : Window} (h : w.isEmpty = false) (o : Option Override) : (overrideMachine o w).isEmpty = false := by
  have lower (a : Int) : (w.lower a).isEmpty = false := by
    obtain ⟨lo, hi⟩ := w
    cases lo <;> simp [Window.lower, Window.isEmpty]
  have raise (a : Int) : (w.raise a).isEmpty = false := by
    obtain ⟨lo, hi⟩ := w
    cases hi <;> simp [Window.raise, Window.isEmpty]
  unfold overrideMachine
  (repeat' split)
  · exact h
  · rfl
  · exact lower _
  · exact raise _
  · exact h
  · exact h

theorem machineWindow_nonempty {limit : Int} {s : Slot MachineFields} (h : s.all (MachineFields.ok limit) = true) :
    (machineWindow s).isEmpty = false := by
  unfold machineWindow
  split
  · next f hf =>
    have hok := Slot.live_all h hf
    simp only [MachineFields.ok, decide_eq_true_eq] at hok
    obtain ⟨hmin, hmax, -⟩ := hok
    exact Window.isEmpty_eq_false_of_has (x := 0) ((Window.has_iff _ _).2 ⟨fun l hl => (hmin l hl).2, fun u hu => (hmax u hu).1⟩)
  · rfl

theorem batteryWindow_has_zero {s : Slot BatteryFields} (h : s.all BatteryFields.ok = true) : (batteryWindow s).has 0 = true := by
  unfold batteryWindow
  split
  · next f hf =>
    split
    · have hok := Slot.live_all h hf
      simp only [BatteryFields.ok, decide_eq_true_eq] at hok
      obtain ⟨hdis, hchg, -⟩ := hok
      refine (Window.has_iff _ _).2 ⟨fun l hl => ?_, fun u hu => (hdis u hu).1⟩
      obtain ⟨c, hc, rfl⟩ := Option.map_eq_some_iff.1 hl
      have := (hchg c hc).1
      omega
    · rfl
  · rfl

theorem closed_has_zero {a b : Int} (ha : 0 ≤ a) (hb : 0 ≤ b) : (Window.closed (-a) b).has 0 = true := by
  rw [Window.has_closed_iff]; omega

theorem derate_nonneg {cap : Nat} {d : Int} (hd : 0 ≤ d) : 0 ≤ trunc (cap * d) 1000 :=
  trunc_nonneg (by decide) (mul_nonneg (Int.natCast_nonneg cap) hd)

theorem derateMgb_has_zero (cfg : Cfg) {s : Slot DerateFields} (h : s.all DerateFields.ok = true) : (derateMgb cfg s).has 0 = true := by
  unfold derateMgb
  split
  · next f hf =>
    have hok := Slot.live_all h hf
    simp only [DerateFields.ok, decide_eq_true_eq] at hok
    exact closed_has_zero (derate_nonneg hok.1.1) (derate_nonneg hok.1.1)
  · rfl

theorem derateBatt_has_zero (cfg : Cfg) {s : Slot DerateFields} (h : s.all DerateFields.ok = true) : (derateBatt cfg s).has 0 = true := by
  unfold derateBatt
  split
  · next f hf =>
    have hok := Slot.live_all h hf
    simp only [DerateFields.ok, decide_eq_true_eq] at hok
    exact closed_has_zero (derate_nonneg hok.2.1) (derate_nonneg hok.2.1)
  · rfl

/-! ### The final windows -/

/-- The layers of a quantity from the highest-ranked down. -/
def Layers.stack (l : Layers) : List Window := [l.safety, l.machine, l.battery, l.brake, l.derate, l.calibration]

theorem Layers.combine_has_iff {l : Layers} (h : ∀ w ∈ l.stack, w.has 0 = true) (x : Int) :
    l.combine.1.has x = true ↔ ∀ w ∈ l.stack, w.has x = true := by
  rw [Layers.combine_eq]; exact stacked_has_iff h x

section
variable (cfg : Cfg) {sn : Snapshot} (h : sn.slots.ok = true)
include h

theorem engLayers_has_zero : ∀ w ∈ (engLayers cfg sn).stack, w.has 0 = true := by
  obtain ⟨-, -, heng, -⟩ := (slots_ok_iff _).1 h
  simp only [Layers.stack, engLayers, List.forall_mem_cons]
  exact ⟨safetyWindow_has_zero _ _, (overrideEng_fromZero (engMachineWindow_fromZero heng) _).2, rfl, rfl, rfl,
    (Window.has_closed_iff ..).2 ⟨le_rfl, Int.natCast_nonneg _⟩, fun w hw => by cases hw⟩

theorem engFinal_has_iff (x : Int) : (engLayers cfg sn).combine.1.has x = true ↔ ∀ w ∈ (engLayers cfg sn).stack, w.has x = true :=
  Layers.combine_has_iff (engLayers_has_zero cfg h) x

theorem engFinal_has_zero : (engLayers cfg sn).combine.1.has 0 = true := (engFinal_has_iff cfg h 0).2 (engLayers_has_zero cfg h)

theorem engFinal_between {x : Int} (hx : (engLayers cfg sn).combine.1.has x = true) : Between 0 cfg.capE x :=
  (Window.has_closed_iff ..).1 ((engFinal_has_iff cfg h x).1 hx (engLayers cfg sn).calibration (by simp [Layers.stack]))

theorem mgaFinal_nonempty : (mgaLayers cfg sn).combine.1.isEmpty = false := by
  obtain ⟨-, -, -, hmga, -⟩ := (slots_ok_iff _).1 h
  rw [Layers.combine_eq]
  refine stacked_nonempty ?_
  simp only [mgaLayers, List.forall_mem_cons]
  exact ⟨Window.isEmpty_eq_false_of_has (safetyWindow_has_zero _ _), overrideMachine_nonempty (machineWindow_nonempty hmga) _, rfl, rfl, rfl,
    Window.isEmpty_eq_false_of_has (closed_has_zero (Int.natCast_nonneg _) (Int.natCast_nonneg _)), fun w hw => by cases hw⟩

theorem mgbFinal_nonempty : (mgbLayers cfg sn).combine.1.isEmpty = false := by
  obtain ⟨-, -, -, -, hmgb, -, -, hderate⟩ := (slots_ok_iff _).1 h
  rw [Layers.combine_eq]
  refine stacked_nonempty ?_
  simp only [mgbLayers, List.forall_mem_cons]
  exact ⟨Window.isEmpty_eq_false_of_has (safetyWindow_has_zero _ _), overrideMachine_nonempty (machineWindow_nonempty hmgb) _, rfl, rfl,
    Window.isEmpty_eq_false_of_has (derateMgb_has_zero cfg hderate),
    Window.isEmpty_eq_false_of_has (closed_has_zero (Int.natCast_nonneg _) (Int.natCast_nonneg _)), fun w hw => by cases hw⟩

theorem battLayers_has_zero : ∀ w ∈ (battLayers cfg sn).stack, w.has 0 = true := by
  obtain ⟨-, hbatt, -, -, -, -, -, hderate⟩ := (slots_ok_iff _).1 h
  simp only [Layers.stack, battLayers, List.forall_mem_cons]
  exact ⟨rfl, rfl, batteryWindow_has_zero hbatt, rfl, derateBatt_has_zero cfg hderate,
    closed_has_zero (Int.natCast_nonneg _) (Int.natCast_nonneg _), fun w hw => by cases hw⟩

end

/-- A window about 0 that holds nothing beyond some bounds is closed on both sides. -/
theorem Window.eq_closed_of_bounded {w : Window} {a b : Int} (h0 : w.has 0 = true) (hb : ∀ x, w.has x = true → a ≤ x ∧ x ≤ b) :
    ∃ lo hi, w = .closed lo hi ∧ lo ≤ 0 ∧ 0 ≤ hi := by
  obtain ⟨hlo, hhi⟩ := (Window.has_iff _ _).1 h0
  obtain ⟨lo, hi⟩ := w
  have hbound := hb 0 h0
  cases lo with
  | none =>
    have := hb (a - 1) ((Window.has_iff _ _).2 ⟨fun l hl => (by cases hl), fun u hu => (by have := hhi u hu; omega)⟩)
    omega
  | some l =>
    cases hi with
    | none =>
      have := hb (b + 1) ((Window.has_iff _ _).2 ⟨fun l hl => (by have := hlo l hl; omega), fun u hu => (by cases hu)⟩)
      omega
    | some u => exact ⟨l, u, rfl, hlo l rfl, hhi u rfl⟩

/-- R19: the final BATT window is that of the two allowances. -/
theorem battFinal_eq (cfg : Cfg) {sn : Snapshot} (h : sn.slots.ok = true) :
    (buildEnvelope cfg sn).final.batt = .closed (-(buildEnvelope cfg sn).chg) (buildEnvelope cfg sn).dis := by
  have hfinal := Layers.combine_has_iff (battLayers_has_zero cfg h)
  obtain ⟨lo, hi, hw, hlo, hhi⟩ := Window.eq_closed_of_bounded ((hfinal 0).2 (battLayers_has_zero cfg h)) fun x hx =>
    (Window.has_closed_iff (-(cfg.capC : Int)) cfg.capD x).1 ((hfinal x).1 hx _ (by simp [Layers.stack, battLayers]))
  have hbatt : (buildEnvelope cfg sn).final.batt = .closed lo hi := hw
  rw [Envelope.chg, Envelope.dis, hbatt]
  simp only [Window.closed, Option.getD_some, Window.mk.injEq, Option.some.injEq, and_true]
  omega

/-! ### The runs of a computation -/

section
variable {cfg : Cfg} {sn : Snapshot} (hcfg : CfgOk cfg) (h : sn.slots.ok = true) (now : Nat)
include hcfg h

omit hcfg in
theorem selectCrankSpeed_nonneg : 0 ≤ selectCrankSpeed cfg sn := by
  obtain ⟨-, -, heng, -⟩ := (slots_ok_iff _).1 h
  unfold selectCrankSpeed
  split
  · next f hf =>
    have hok := Slot.live_all heng hf
    simp only [EngineFields.ok, decide_eq_true_eq] at hok
    exact hok.2.1.1
  · exact Int.natCast_nonneg _

omit hcfg in
theorem selectAxleSpeed_nonneg : 0 ≤ selectAxleSpeed cfg sn := by
  obtain ⟨-, -, -, -, -, hbrake, -⟩ := (slots_ok_iff _).1 h
  unfold selectAxleSpeed
  split
  · next f hf =>
    have hok := Slot.live_all hbrake hf
    simp only [BrakeFields.ok, decide_eq_true_eq] at hok
    exact hok.2.1.1
  · exact Int.natCast_nonneg _

omit h in
theorem engineWeight_le (soc : Int) : engineWeight cfg soc ≤ 32 := by
  obtain ⟨hlo, hmid, hhi⟩ := hcfg.weights
  unfold engineWeight
  split_ifs <;> assumption

theorem runInput_sound : (runInput cfg (computationFrom cfg sn now)).Sound where
  eng := engFinal_has_zero cfg h
  mga := mgaFinal_nonempty cfg h
  mgb := mgbFinal_nonempty cfg h
  pin := fun p hp => by cases hp
  weight := ⟨Int.natCast_nonneg _, Int.ofNat_le.2 (engineWeight_le hcfg _)⟩
  speeds := ⟨selectCrankSpeed_nonneg h, selectAxleSpeed_nonneg h⟩
  efficiencies := by
    obtain ⟨⟨ha, -⟩, ⟨hb, -⟩⟩ := hcfg.efficiency
    exact ⟨by simp only [runInput]; omega, by simp only [runInput]; omega⟩
  batt := battFinal_eq cfg h

theorem lastInput_sound : (lastInput cfg (computationFrom cfg sn now)).Sound := by
  obtain ⟨heng, hmga, hmgb, hpin, hweight, hspeeds, heta, hbatt⟩ := runInput_sound hcfg h now
  unfold lastInput
  split
  · refine ⟨heng, hmga, hmgb, fun p hp => ?_, hweight, hspeeds, heta, hbatt⟩
    cases hp
    exact Window.has_clamp _ _ (Window.isEmpty_eq_false_of_has heng)
  · exact runInput_sound hcfg h now

theorem fillPlan_within (r : Plan) : (fillPlan cfg (computationFrom cfg sn now) r).Within := by
  have hwithin := allocate_within (lastInput_sound hcfg h now)
  rw [lastInput_eq] at hwithin
  rw [Run.Within] at hwithin
  have hlast := lastInput_eq cfg (computationFrom cfg sn now)
  unfold fillPlan
  dsimp only
  rw [hlast]
  exact hwithin

theorem fillPlan_powerKept (r : Plan) : (fillPlan cfg (computationFrom cfg sn now) r).PowerKept cfg (computationFrom cfg sn now) := by
  refine ⟨fillPlan_power .., fun hforced => ?_⟩
  have hhas := allocate_power_has (lastInput_sound hcfg h now)
  have hlast := lastInput_eq cfg (computationFrom cfg sn now)
  unfold fillPlan
  dsimp only
  rw [hlast] at hhas ⊢
  exact hhas hforced

end

/-! ### An engine that does not run (R22, R70) -/

theorem zero_lower_zero (a : Int) : Window.zero.lower a = .zero := by simp [Window.lower, Window.zero]

/-- R22, R34: an engine that does not run has its MACHINE window closed, whatever override is pending. -/
theorem engMachine_closed {sn : Snapshot} (h : ∀ x, sn.slots.engine.live = some x → x.state ≠ .running) (o : Option Override) :
    overrideEng o (engMachineWindow sn.slots.engine) = .zero := by
  have hbare : engMachineWindow sn.slots.engine = .zero := by
    unfold engMachineWindow
    split
    · next f hf => rw [if_neg (h f hf)]
    · rfl
  rw [hbare]
  unfold overrideEng
  (repeat' split)
  · rfl
  · rfl
  · exact zero_lower_zero _
  · rfl
  · rfl

theorem eq_zero_of_engFinal_has {cfg : Cfg} {sn : Snapshot} (hok : sn.slots.ok = true)
    (h : ∀ x, sn.slots.engine.live = some x → x.state ≠ .running) {x : Int} (hx : (engLayers cfg sn).combine.1.has x = true) : x = 0 := by
  have hmachine := (engFinal_has_iff cfg hok x).1 hx (engLayers cfg sn).machine (by simp [Layers.stack])
  have hzero : (engLayers cfg sn).machine = .closed 0 0 := engMachine_closed h _
  rw [hzero, Window.has_closed_iff] at hmachine
  omega

/-- Settles O48: the run's values stay in their windows and the power in the allowances at every step, and the ENG window is closed unless the engine runs. -/
theorem commandsLieInTheirWindows : Obligations.CommandsLieInTheirWindows := by
  intro cfg sn now r hcfg hok
  have hwithin := fillPlan_within hcfg hok now r
  exact ⟨_, _, rfl, rfl, hwithin, (fillPlan_powerKept hcfg hok now r).2, fun hstill => eq_zero_of_engFinal_has hok hstill hwithin.1⟩

/-! ### The blend (R47 to R52) -/

/-- R51: a share of at most the whole of the way from origin to target stays between the two. -/
theorem blended_between (o t : Int) {f : Nat} (hf : f ≤ 32) :
    min o t ≤ o + trunc ((t - o) * f) 32 ∧ o + trunc ((t - o) * f) 32 ≤ max o t := by
  have hf' : (0 : Int) ≤ f ∧ (f : Int) ≤ 32 := by omega
  rcases le_total o t with hle | hle
  · have := weighted_between (sub_nonneg.2 hle) hf'.1 hf'.2
    omega
  · have := weighted_between (sub_nonneg.2 hle) hf'.1 hf'.2
    have hneg : (t - o) * f = -((o - t) * f) := by rw [← neg_mul, neg_sub]
    rw [hneg, trunc_neg]
    omega

theorem Blend.pin_between {b : Blend} {target : Int} {w : Window} (hf : b.factor ≤ 32) (ht : w.has target = true) :
    min b.origin target ≤ b.pin target w ∧ b.pin target w ≤ max b.origin target := by
  have hblend := blended_between b.origin target hf
  have hclamp := Window.clamp_between ht (b.origin + trunc ((target - b.origin) * b.factor) 32)
  unfold Blend.pin
  omega

theorem Blend.pin_of_full {b : Blend} {target : Int} {w : Window} (hf : b.factor = 32) (ht : w.has target = true) :
    b.pin target w = target := by
  have hwhole : trunc ((target - b.origin) * (32 : Nat)) 32 = target - b.origin := Int.mul_tdiv_cancel _ (by decide)
  unfold Blend.pin
  rw [hf, hwhole, add_sub_cancel, Window.clamp_of_has ht]

theorem blendOk_inactive : BlendOk .inactive := by simp [BlendOk, Blend.inactive]

theorem blendOk_factor {b : Blend} (h : BlendOk b) (ha : b.active = true) : b.factor ≤ 32 := by
  simp only [BlendOk, ha, if_true] at h; exact h.2.2

theorem chooseBlend_ok {cfg : Cfg} (hcfg : CfgOk cfg) {ms : ModeSel} (h : ModeSelOk ms) (mode : Mode) : BlendOk (chooseBlend cfg ms mode) := by
  obtain ⟨hlast, -, -, hblend⟩ := h
  obtain ⟨-, hstep⟩ := hcfg.cycle
  unfold chooseBlend
  split_ifs
  · exact hblend
  · exact blendOk_inactive
  · simp only [BlendOk, if_true]
    exact ⟨hlast, by omega⟩
  · exact blendOk_inactive

/-- R72: the pinned run holds the pin, and an unpinned computation runs once. -/
theorem fillPlan_eng (cfg : Cfg) (c : Computation) (r : Plan) : (fillPlan cfg c r).eng =
    if c.sel.blend.active = true then c.sel.blend.pin (allocate (runInput cfg c)).eng c.env.final.eng else (allocate (runInput cfg c)).eng := by
  show (allocate (lastInput cfg c)).eng = _
  unfold lastInput
  split
  · exact allocate_pinned rfl
  · rfl

/-- Settles O50: a pin is a share of the way to a target in the window, and the last run holds it. -/
theorem blendPinLiesBetween : Obligations.BlendPinLiesBetween := by
  refine ⟨fun b target w _ _ hf ht => ?_, fun cfg sn now r hcfg hok hms => ?_⟩
  · obtain ⟨hlo, hhi⟩ := Blend.pin_between hf ht
    exact ⟨hlo, hhi, Window.has_clamp _ _ (Window.isEmpty_eq_false_of_has ht), fun hfull => Blend.pin_of_full hfull ht⟩
  · have hblend : BlendOk (computationFrom cfg sn now).sel.blend := chooseBlend_ok hcfg hms _
    obtain ⟨htarget, -⟩ := allocate_within (runInput_sound hcfg hok now)
    have heng := fillPlan_eng cfg (computationFrom cfg sn now) r
    refine ⟨_, _, _, rfl, rfl, rfl, hblend, rfl, fun ha => ?_, fun hn => ?_⟩
    · rw [if_pos ha] at heng
      obtain ⟨hlo, hhi⟩ := Blend.pin_between (blendOk_factor hblend ha) htarget
      exact ⟨heng, heng ▸ hlo, heng ▸ hhi⟩
    · rw [heng, hn, if_neg (by decide)]

end Sys2Proof.Machine
end

section
/-! PROOFS. The ranges of what the part holds (R35, R47, R81, R84, R95, R100, R175, L11) and its COMPLETE plans (L1 to L3), through every step. -/

namespace Sys2Proof.Machine

/-! ### The topic table (R95, R96, L11) -/

theorem nodup_topics_concat {table : List TopicEntry} (h : (table.map (·.topic)).Nodup) {e : TopicEntry}
    (hnew : ∀ x ∈ table, x.topic ≠ e.topic) : ((table ++ [e]).map (·.topic)).Nodup := by
  rw [List.map_append, List.map_singleton, List.nodup_append]
  refine ⟨h, List.nodup_singleton _, fun a ha b hb hab => ?_⟩
  obtain ⟨x, hx, rfl⟩ := List.mem_map.1 ha
  exact hnew x hx (hab.trans (List.mem_singleton.1 hb))

theorem enterKind_tableOk (cfg : Cfg) {acc : List TopicEntry × Bool} {n : Nat} (h : (acc.1.map (·.topic)).Nodup ∧ acc.1.length ≤ n) (k : Kind) :
    ((enterKind cfg acc k).1.map (·.topic)).Nodup ∧ (enterKind cfg acc k).1.length ≤ n + 1 := by
  obtain ⟨hnodup, hlen⟩ := h
  unfold enterKind
  dsimp only
  split
  · exact ⟨hnodup, hlen.trans (Nat.le_succ n)⟩
  · next hfree =>
    simp only [Bool.or_eq_true, List.any_eq_true, beq_iff_eq, not_or] at hfree
    refine ⟨nodup_topics_concat hnodup fun x hx htopic => hfree.1 ⟨x, hx, htopic⟩, ?_⟩
    rw [List.length_append]; exact Nat.succ_le_succ hlen

theorem foldl_enterKind_tableOk (cfg : Cfg) (ks : List Kind) {acc : List TopicEntry × Bool} {n : Nat}
    (h : (acc.1.map (·.topic)).Nodup ∧ acc.1.length ≤ n) :
    ((ks.foldl (enterKind cfg) acc).1.map (·.topic)).Nodup ∧ (ks.foldl (enterKind cfg) acc).1.length ≤ n + ks.length := by
  induction ks generalizing acc n with
  | nil => exact h
  | cons k ks ih =>
    rw [List.length_cons, Nat.add_comm ks.length 1, ← Nat.add_assoc]
    exact ih (enterKind_tableOk cfg h k)

theorem buildTable_tableOk (cfg : Cfg) : TableOk (buildTable cfg).1 := by
  have h : ((allKinds.foldl (enterKind cfg) ([], false)).1.map (·.topic)).Nodup ∧ _ :=
    foldl_enterKind_tableOk cfg allKinds (n := 0) ⟨List.nodup_nil, le_rfl⟩
  unfold buildTable
  generalize allKinds.foldl (enterKind cfg) ([], false) = acc at h
  obtain ⟨hnodup, hlen⟩ := h
  have hlen : acc.1.length ≤ 9 := hlen
  unfold enterWake
  split
  · refine ⟨?_, by rw [List.length_map]; exact hlen.trans (by decide)⟩
    have htopics : (fun e : TopicEntry => (if e.topic = cfg.wakeTopic then ⟨e.topic, e.consumed, true⟩ else e : TopicEntry).topic) = (·.topic) := by
      funext e; split <;> rfl
    rwa [List.map_map, Function.comp_def, htopics]
  · split
    · exact ⟨hnodup, hlen.trans (by decide)⟩
    · next hfree _ =>
      simp only [List.any_eq_true, beq_iff_eq] at hfree
      refine ⟨nodup_topics_concat hnodup fun x hx htopic => hfree ⟨x, hx, htopic⟩, ?_⟩
      rw [List.length_append]; exact Nat.succ_le_succ hlen

theorem State.endLoad_table (s : State) (cfg : Cfg) (r : LoadResult) : (s.endLoad cfg r).ti.table = (buildTable cfg).1 := by
  simp [State.endLoad]

theorem State.lookTelegram_table (s : State) (k : Kind) (f : Frame) : (s.lookTelegram k f).ti.table = s.ti.table := by
  unfold State.lookTelegram; split <;> rfl

theorem State.lookTelegram_slots (s : State) (k : Kind) (f : Frame) : (s.lookTelegram k f).ti.slots = s.ti.slots := by
  unfold State.lookTelegram; split <;> rfl

theorem State.storeTelegram_ti (s : State) (k : Kind) (f : Frame) :
    (s.storeTelegram k f).ti = { s.ti with slots := writeSlot s.ti.slots s.now k f } := by
  simp [State.storeTelegram]

theorem State.acceptTelegram_table (s : State) (e : Consumed) (f : Frame) : (s.acceptTelegram e f).ti.table = s.ti.table := by
  simp [State.acceptTelegram, State.lookTelegram_table, State.storeTelegram_ti]

theorem State.acceptTelegram_slots (s : State) (e : Consumed) (f : Frame) :
    (s.acceptTelegram e f).ti.slots = writeSlot s.ti.slots s.now e.kind f := by
  simp [State.acceptTelegram, State.lookTelegram_slots, State.storeTelegram_ti]

/-! ### Topic Intake's table and slots (R95, R100) -/

theorem State.checkSleep_table (s : State) : s.checkSleep.ti.table = s.ti.table := by
  rcases s.checkSleep_cases with ⟨-, -, -, h⟩ | ⟨-, h⟩ <;> rw [h]
  rfl

theorem State.checkSleep_slots {s : State} {sl : Slots} (hsl : s.ti.slots = sl) :
    s.checkSleep.ti.slots = sl ∨ s.checkSleep.ti.slots = .reset := by
  rcases s.checkSleep_cases with ⟨-, -, -, h⟩ | ⟨-, h⟩ <;> rw [h]
  · exact .inr rfl
  · exact .inl hsl

theorem State.releaseEvent_ti (s : State) : s.releaseEvent.ti = s.ti := by rw [State.releaseEvent_eq]

theorem State.afterPlan_table (s : State) : s.afterPlan.ti.table = s.ti.table := by
  cases hr : s.cfg.releaseSource with
  | line => rw [State.afterPlan_of_line hr]; simp
  | plan => rw [State.afterPlan_of_plan hr]; simp [State.checkSleep_table]

theorem State.afterPlan_slots (s : State) : s.afterPlan.ti.slots = s.ti.slots ∨ s.afterPlan.ti.slots = .reset := by
  cases hr : s.cfg.releaseSource with
  | line => rw [State.afterPlan_of_line hr]; simp
  | plan =>
    rw [State.afterPlan_of_plan hr]
    simpa using State.checkSleep_slots (congrArg Intake.slots s.releaseEvent_ti)

theorem Effect.tableOk {s t : State} (h : Effect s t) (hs : TableOk s.ti.table) : TableOk t.ti.table := by
  have empty : TableOk [] := ⟨List.nodup_nil, Nat.zero_le 10⟩
  have same (ht : t.ti.table = s.ti.table) : TableOk t.ti.table := ht ▸ hs
  cases h with
  | powersOn | resets => exact empty
  | endsLoad cfg r => rw [State.endLoad_table]; exact buildTable_tableOk cfg
  | wakes p => exact same (s.withPins p).wake_woken.kept.2.1
  | releases b => exact same (by rw [State.checkSleep_table, State.releaseEvent_ti]; rfl)
  | completes c => exact same (by rw [State.completeComputation, State.afterPlan_table]; simp)
  | accepts e f => exact same (by rw [State.checkSleep_table, State.acceptTelegram_table])
  | stays | lines | beginsLoad | windsDown | resumes | sleeps | shuts | levels | clashes | stopLates | helds | stales | forgets | attempts
  | reopens => exact hs
  | ignores => exact same s.checkSleep_table
  | rejects | sends | ackFails | startFails | holdEnds | engineStales =>
    exact same (by rw [State.checkSleep_table]; simp [State.rejectTelegram])
  | shutsAndBuilds | cycles | loses | errs | expires => exact same (by simp)

/-! ### The slots (R100) -/

theorem numField_between (w : Word) {lo hi : Int} (h : lo ≤ hi) : Between lo hi (numField w lo hi) := clampInt_between lo hi _ h

theorem boundField_within (w : Word) {lo hi : Int} (h : lo ≤ hi) : BoundWithin lo hi (boundField w lo hi) := by
  intro x hx
  unfold boundField at hx
  split at hx
  · cases hx
  · cases hx; exact numField_between w h

theorem machineFields_ok {limit : Int} (h : 0 ≤ limit) (f : Frame) : (machineFields limit f).ok limit = true := by
  have happlied := numField_between (f.word 2) (lo := -limit) (hi := limit) (by omega)
  unfold machineFields MachineFields.ok
  rw [decide_eq_true_eq]
  split
  · exact ⟨fun x hx => by cases hx; omega, fun x hx => by cases hx; omega, happlied⟩
  · exact ⟨boundField_within _ (by omega), boundField_within _ h, happlied⟩

theorem gearboxFields_ok (f : Frame) : (gearboxFields f).ok = true := by
  unfold GearboxFields.ok gearboxFields ratioOf
  rw [decide_eq_true_eq]
  split
  · exact .inl rfl
  · exact .inr (clampInt_between _ _ _ (by decide))

/-- R100, R104: the fields of an accepted telegram are in their intake ranges. -/
theorem writeSlot_ok {sl : Slots} (h : sl.ok = true) (now : Nat) (k : Kind) (f : Frame) : (writeSlot sl now k f).ok = true := by
  rw [slots_ok_iff] at h ⊢
  obtain ⟨hdemand, hbattery, hengine, hmga, hmgb, hbrake, hgearbox, hderate⟩ := h
  cases k with
  | demand => exact ⟨decide_eq_true (numField_between _ (by decide)), hbattery, hengine, hmga, hmgb, hbrake, hgearbox, hderate⟩
  | battery =>
    exact ⟨hdemand, decide_eq_true ⟨boundField_within _ (by decide), boundField_within _ (by decide), numField_between _ (by decide)⟩,
      hengine, hmga, hmgb, hbrake, hgearbox, hderate⟩
  | engine =>
    exact ⟨hdemand, hbattery, decide_eq_true ⟨boundField_within _ (by decide), numField_between _ (by decide), numField_between _ (by decide)⟩,
      hmga, hmgb, hbrake, hgearbox, hderate⟩
  | mgaEcho => exact ⟨hdemand, hbattery, hengine, machineFields_ok (by decide) f, hmgb, hbrake, hgearbox, hderate⟩
  | mgbEcho => exact ⟨hdemand, hbattery, hengine, hmga, machineFields_ok (by decide) f, hbrake, hgearbox, hderate⟩
  | brake =>
    exact ⟨hdemand, hbattery, hengine, hmga, hmgb,
      decide_eq_true ⟨boundField_within _ (by decide), numField_between _ (by decide), numField_between _ (by decide)⟩, hgearbox, hderate⟩
  | gearbox => exact ⟨hdemand, hbattery, hengine, hmga, hmgb, hbrake, gearboxFields_ok f, hderate⟩
  | zone => exact ⟨hdemand, hbattery, hengine, hmga, hmgb, hbrake, hgearbox, hderate⟩
  | derate =>
    exact ⟨hdemand, hbattery, hengine, hmga, hmgb, hbrake, hgearbox,
      decide_eq_true ⟨numField_between _ (by decide), numField_between _ (by decide)⟩⟩

theorem Slot.all_setState {α : Type} (p : α → Bool) (st : Freshness) (s : Slot α) : (s.setState st).all p = s.all p := by
  cases s <;> rfl

theorem Slot.all_judge {α : Type} (p : α → Bool) (lim : Option Consumed) (now : Nat) (s : Slot α) : (s.judge lim now).all p = s.all p := by
  cases s with
  | never => rfl
  | received => cases lim <;> rfl

theorem Slots.ok_setState (sl : Slots) (k : Kind) (st : Freshness) : (sl.setState k st).ok = sl.ok := by
  cases k <;> simp [Slots.ok, Slots.setState, Slot.all_setState]

theorem Intake.ok_judged (ti : Intake) (now : Nat) : (ti.judged now).ok = ti.slots.ok := by
  simp [Slots.ok, Intake.judged, Slot.all_judge]

theorem slots_reset_ok : Slots.reset.ok = true := rfl

theorem Effect.slotsOk {s t : State} (h : Effect s t) (hs : s.ti.slots.ok = true) : t.ti.slots.ok = true := by
  have rested {sl : Slots} (hsl : sl.ok = true) (ht : t.ti.slots = sl ∨ t.ti.slots = .reset) : t.ti.slots.ok = true := by
    rcases ht with ht | ht <;> rw [ht]
    · exact hsl
    · exact slots_reset_ok
  have same (ht : t.ti.slots = s.ti.slots) : t.ti.slots.ok = true := ht ▸ hs
  cases h with
  | powersOn | resets | sleeps => exact slots_reset_ok
  | endsLoad cfg r => exact same (by simp [State.endLoad])
  | wakes p =>
    refine rested hs (.inr ?_)
    unfold State.wake; rw [State.enterReady_eq]; rfl
  | releases b => exact rested hs (State.checkSleep_slots (congrArg Intake.slots (s.withLevel b).releaseEvent_ti))
  | completes c =>
    exact rested hs (by simpa [State.completeComputation] using (s.finishPlan c (fillPlan s.cfg c s.cs.back.record)).afterPlan_slots)
  | accepts e f =>
    exact rested (writeSlot_ok hs s.now e.kind f) (State.checkSleep_slots (s.acceptTelegram_slots e f))
  | helds k | stales k => exact (Slots.ok_setState ..).trans hs
  | engineStales =>
    refine rested (sl := s.ti.slots.setState .engine .stale) ((Slots.ok_setState ..).trans hs) (State.checkSleep_slots ?_)
    simp
  | stays | lines | beginsLoad | windsDown | resumes | shuts | levels | clashes | stopLates | forgets | attempts | reopens => exact hs
  | ignores => exact rested hs (State.checkSleep_slots rfl)
  | rejects f topic => exact rested hs (State.checkSleep_slots (by simp [State.rejectTelegram]))
  | sends a => exact rested hs (State.checkSleep_slots (by simp))
  | ackFails => exact rested hs (State.checkSleep_slots (by simp))
  | startFails => exact rested hs (State.checkSleep_slots (by simp))
  | holdEnds => exact rested hs (State.checkSleep_slots (by simp))
  | shutsAndBuilds | cycles | loses | errs | expires => exact same (by simp)

end Sys2Proof.Machine
end

section
/-! PROOFS. The Scheduler, the plans and the Mode Selector through every step: where a plan, a computation and a commit come from (R35, R47, R81, R84, L1 to L3, L9). -/

namespace Sys2Proof.Machine

/-! ### The Scheduler's marks (R81, R84) -/

section
variable {s : State}

theorem State.startComputation_schedOk (tr : Trigger) : SchedOk (s.startComputation tr).cs := by
  rw [(s.startComputation_starts tr).state]
  exact ⟨rfl, fun _ => rfl⟩

theorem State.startRequest_schedOk (h : SchedOk s.cs) (tr : Trigger) : SchedOk (s.startRequest tr).cs := by
  rcases s.startRequest_cases tr with ⟨-, hs⟩ | ⟨-, -, hs⟩ | ⟨-, hi, hs⟩ <;> rw [hs]
  · exact h
  · exact s.startComputation_schedOk tr
  · exact ⟨h.1, fun _ => hi⟩

theorem State.releaseEvent_schedOk (h : SchedOk s.cs) : SchedOk s.releaseEvent.cs := by
  rcases s.releaseEvent_cases with ⟨p, hb, hi, -⟩ | ⟨hno, -⟩
  · rw [(State.releaseEvent_swaps hb hi).1]
    exact ⟨by simp only [hi]; rfl, h.2⟩
  · rw [(State.releaseEvent_keeps hno).1]; exact h

theorem State.checkSleep_schedOk (h : SchedOk s.cs) : SchedOk s.checkSleep.cs := by
  rcases s.checkSleep_cases with ⟨-, -, -, hs⟩ | ⟨-, hs⟩ <;> rw [hs]
  · exact ⟨rfl, fun hp => by cases hp⟩
  · exact h

/-- R85 step 6: whatever stands pending, the marks go together once the pending start is taken. -/
theorem State.takePending_schedOk (h : s.cs.inflight.isSome = s.cs.back.isComputing) : SchedOk s.takePending.cs := by
  unfold State.takePending
  split
  · exact State.startComputation_schedOk _
  · next hp => exact ⟨h, fun hsome => by rw [hp] at hsome; cases hsome⟩

theorem State.finishPlan_cs (c : Computation) (p : Plan) : (s.finishPlan c p).cs = { s.cs with inflight := none, back := .complete p } :=
  (s.finishPlan_reported c p).back

/-- R84: a plan just filled leaves nothing in flight and nothing COMPUTING, through its release and a sleep. -/
theorem State.afterPlan_schedOk (h : s.cs.inflight.isSome = s.cs.back.isComputing) : SchedOk s.afterPlan.cs := by
  cases hr : s.cfg.releaseSource with
  | line => rw [State.afterPlan_of_line hr]; exact State.takePending_schedOk h
  | plan =>
    rw [State.afterPlan_of_plan hr]
    have hreleased : s.releaseEvent.cs.inflight.isSome = s.releaseEvent.cs.back.isComputing := by
      rcases s.releaseEvent_cases with ⟨p, hb, hi, -⟩ | ⟨hno, -⟩
      · rw [(State.releaseEvent_swaps hb hi).1]; simp only [hi]; rfl
      · rw [(State.releaseEvent_keeps hno).1]; exact h
    rcases s.releaseEvent.checkSleep_cases with ⟨-, -, -, hs⟩ | ⟨-, hs⟩ <;> rw [hs]
    · exact State.takePending_schedOk rfl
    · exact State.takePending_schedOk hreleased

theorem State.demandTelegram_schedOk (h : SchedOk s.cs) (k : Kind) (f : Frame) : SchedOk (s.demandTelegram k f).cs := by
  unfold State.demandTelegram State.demandAccepted
  (repeat' split)
  · exact h
  · exact State.startRequest_schedOk (s := s.withCs { s.cs with lastSeq := some f.seq }) h .demand
  · exact h

theorem State.acceptTelegram_cs (e : Consumed) (f : Frame) :
    ∃ u : State, u.cs = s.cs ∧ u.cfg = s.cfg ∧ u.ms = s.ms ∧ u.ti.slots = writeSlot s.ti.slots s.now e.kind f ∧
      s.acceptTelegram e f = u.demandTelegram e.kind f :=
  ⟨_, by simp, by simp, by simp, by simp [State.lookTelegram_slots, State.storeTelegram_ti], rfl⟩

theorem Effect.schedOk {t : State} (h : Effect s t) (hs : SchedOk s.cs) : SchedOk t.cs := by
  have quiet {c : Sched} (hi : c.inflight = none) (hb : c.back = .empty) (hp : c.pendingStart = none) : SchedOk c := by
    simp [SchedOk, hi, hb, hp, BackPlan.isComputing]
  have same {u : State} (hu : u.cs = s.cs) : SchedOk u.cs := hu ▸ hs
  cases h with
  | powersOn | resets | sleeps => exact quiet rfl rfl rfl
  | endsLoad cfg r => unfold State.endLoad; rw [State.enterReady_eq]; exact hs
  | wakes p =>
    obtain ⟨hi, hp, -⟩ := (s.withPins p).wake_atReset.scheduler
    exact quiet hi (s.withPins p).wake_atReset.plans.1 hp
  | releases b => exact State.checkSleep_schedOk (State.releaseEvent_schedOk (s := s.withLevel b) hs)
  | completes c =>
    unfold State.completeComputation
    exact State.afterPlan_schedOk (by rw [State.finishPlan_cs]; rfl)
  | accepts e f =>
    obtain ⟨u, hcs, -, -, -, hu⟩ := s.acceptTelegram_cs e f
    exact State.checkSleep_schedOk (hu ▸ State.demandTelegram_schedOk (same hcs) e.kind f)
  | cycles => exact State.startRequest_schedOk (s := s.withCs { s.cs with timer := none }) hs .timer
  | stays | lines | beginsLoad | windsDown | resumes | shuts | levels | clashes | stopLates | helds | stales | forgets | attempts
  | reopens => exact hs
  | ignores => exact State.checkSleep_schedOk hs
  | rejects | sends | ackFails | startFails | holdEnds | engineStales => exact State.checkSleep_schedOk (same (by simp))
  | shutsAndBuilds | loses | errs | expires => exact same (by simp)

end

/-! ### Where plans, computations and commits come from -/

/-- The plan that the computation in flight fills. -/
def Filled (s : State) (q : Plan) : Prop := ∃ c r, s.cs.inflight = some c ∧ q = fillPlan s.cfg c r

/-- What the computation in flight commits to the Mode Selector. -/
def Committed (s : State) (m : ModeSel) : Prop := ∃ c r, s.cs.inflight = some c ∧ m = commitMode s.cfg c (fillPlan s.cfg c r)

/-- The computation that a start takes from a part with this configuration, the slots in their ranges, and a Mode Selector that is the one of `s` or committed. -/
def NewFrom (s : State) (k : Computation) : Prop :=
  ∃ u : State, k = u.newComputation ∧ u.cfg = s.cfg ∧ (s.ti.slots.ok = true → u.ti.slots.ok = true) ∧ (u.ms = s.ms ∨ Committed s u.ms)

/-- Where the plans, the computation in flight and the Mode Selector of `t` come from, after an effect on `s`. -/
structure SchedEffect (s t : State) : Prop where
  front : ∀ q, t.cs.front = some q → s.cs.front = some q ∨ s.cs.back = .complete q ∨ Filled s q
  back : ∀ q, t.cs.back = .complete q → s.cs.back = .complete q ∨ Filled s q
  inflight : ∀ k, t.cs.inflight = some k → s.cs.inflight = some k ∨ NewFrom s k
  ms : t.ms = s.ms ∨ t.ms = .reset ∨ Committed s t.ms

section
variable {s u : State}

theorem SchedEffect.same {t : State} (hcs : t.cs.front = s.cs.front ∧ t.cs.back = s.cs.back ∧ t.cs.inflight = s.cs.inflight)
    (hms : t.ms = s.ms) : SchedEffect s t := by
  obtain ⟨hfront, hback, hinflight⟩ := hcs
  exact ⟨fun q hq => .inl (hfront ▸ hq), fun q hq => .inl (hback ▸ hq), fun k hk => .inl (hinflight ▸ hk), .inl hms⟩

theorem SchedEffect.quiet {t : State} (hfront : t.cs.front = none) (hback : t.cs.back = .empty) (hinflight : t.cs.inflight = none)
    (hms : t.ms = s.ms ∨ t.ms = .reset ∨ Committed s t.ms) : SchedEffect s t := by
  refine ⟨fun q hq => ?_, fun q hq => ?_, fun k hk => ?_, hms⟩
  · rw [hfront] at hq; cases hq
  · rw [hback] at hq; cases hq
  · rw [hinflight] at hk; cases hk

theorem SchedEffect.checkSleep (h : SchedEffect s u) : SchedEffect s u.checkSleep := by
  rcases u.checkSleep_cases with ⟨-, -, -, hs⟩ | ⟨-, hs⟩ <;> rw [hs]
  · exact .quiet rfl rfl rfl h.ms
  · exact h

theorem SchedEffect.releaseEvent (h : SchedEffect s u) : SchedEffect s u.releaseEvent := by
  have hms : u.releaseEvent.ms = u.ms := by rw [State.releaseEvent_eq]
  rcases u.releaseEvent_cases with ⟨p, hb, hi, -⟩ | ⟨hno, -⟩
  · obtain ⟨hcs, -⟩ := State.releaseEvent_swaps hb hi
    refine ⟨fun q hq => ?_, fun q hq => ?_, fun k hk => ?_, hms ▸ h.ms⟩
    · rw [hcs] at hq
      cases hq
      exact .inr (h.back p hb)
    · rw [hcs] at hq; cases hq
    · rw [hcs] at hk; exact h.inflight k hk
  · obtain ⟨hcs, -⟩ := State.releaseEvent_keeps hno
    exact ⟨hcs ▸ h.front, hcs ▸ h.back, hcs ▸ h.inflight, hms ▸ h.ms⟩

theorem SchedEffect.startComputation (h : SchedEffect s u) (tr : Trigger) (hcfg : u.cfg = s.cfg)
    (hslots : s.ti.slots.ok = true → u.ti.slots.ok = true) (hms : u.ms = s.ms ∨ Committed s u.ms) : SchedEffect s (u.startComputation tr) := by
  have hstate := (u.startComputation_starts tr).state
  refine ⟨fun q hq => ?_, fun q hq => ?_, fun k hk => ?_, ?_⟩
  · rw [hstate] at hq; exact h.front q hq
  · rw [hstate] at hq; cases hq
  · rw [hstate] at hk
    cases hk
    exact .inr ⟨u, rfl, hcfg, hslots, hms⟩
  · simpa using h.ms

theorem SchedEffect.startRequest (h : SchedEffect s u) (tr : Trigger) (hcfg : u.cfg = s.cfg)
    (hslots : s.ti.slots.ok = true → u.ti.slots.ok = true) (hms : u.ms = s.ms ∨ Committed s u.ms) : SchedEffect s (u.startRequest tr) := by
  rcases u.startRequest_cases tr with ⟨-, hs⟩ | ⟨-, -, hs⟩ | ⟨-, -, hs⟩ <;> rw [hs]
  · exact h
  · exact h.startComputation tr hcfg hslots hms
  · exact ⟨h.front, h.back, h.inflight, h.ms⟩

theorem SchedEffect.takePending (h : SchedEffect s u) (hcfg : u.cfg = s.cfg)
    (hslots : s.ti.slots.ok = true → u.ti.slots.ok = true) (hms : u.ms = s.ms ∨ Committed s u.ms) : SchedEffect s u.takePending := by
  unfold State.takePending
  split
  · exact SchedEffect.startComputation (u := u.withCs { u.cs with pendingStart := none }) ⟨h.front, h.back, h.inflight, h.ms⟩ _ hcfg hslots hms
  · exact h

theorem SchedEffect.demandTelegram (h : SchedEffect s u) (k : Kind) (f : Frame) (hcfg : u.cfg = s.cfg)
    (hslots : s.ti.slots.ok = true → u.ti.slots.ok = true) (hms : u.ms = s.ms ∨ Committed s u.ms) : SchedEffect s (u.demandTelegram k f) := by
  unfold State.demandTelegram State.demandAccepted
  (repeat' split)
  · exact h
  · exact SchedEffect.startRequest (u := u.withCs { u.cs with lastSeq := some f.seq }) ⟨h.front, h.back, h.inflight, h.ms⟩ .demand hcfg hslots hms
  · exact h

theorem State.finishPlan_ms (s : State) (c : Computation) (p : Plan) : (s.finishPlan c p).ms = commitMode s.cfg c p := by
  simp [State.finishPlan, State.commit]

theorem State.completeComputation_schedEffect {c : Computation} (hc : s.cs.inflight = some c) : SchedEffect s (s.completeComputation c) := by
  unfold State.completeComputation
  have hcs := s.finishPlan_cs c (fillPlan s.cfg c s.cs.back.record)
  have hms : Committed s (s.finishPlan c (fillPlan s.cfg c s.cs.back.record)).ms := ⟨c, _, hc, s.finishPlan_ms c _⟩
  have hcfg : (s.finishPlan c (fillPlan s.cfg c s.cs.back.record)).cfg = s.cfg := by simp
  have hslots : s.ti.slots.ok = true → (s.finishPlan c (fillPlan s.cfg c s.cs.back.record)).ti.slots.ok = true := by simp
  have h : SchedEffect s (s.finishPlan c (fillPlan s.cfg c s.cs.back.record)) := by
    refine ⟨fun q hq => .inl (by rw [hcs] at hq; exact hq), fun q hq => ?_, fun k hk => ?_, .inr (.inr hms)⟩
    · rw [hcs] at hq
      cases hq
      exact .inr ⟨c, _, hc, rfl⟩
    · rw [hcs] at hk; cases hk
  generalize s.finishPlan c (fillPlan s.cfg c s.cs.back.record) = u at h hms hcfg hslots
  cases hr : u.cfg.releaseSource with
  | line => rw [State.afterPlan_of_line hr]; exact h.takePending hcfg hslots (.inr hms)
  | plan =>
    rw [State.afterPlan_of_plan hr]
    refine h.releaseEvent.checkSleep.takePending (by simp [hcfg]) (fun hok => ?_) (.inr ?_)
    · rcases State.checkSleep_slots (congrArg Intake.slots u.releaseEvent_ti) with hsl | hsl <;> rw [hsl]
      · exact hslots hok
      · exact slots_reset_ok
    · simp only [State.checkSleep_frame]; rw [State.releaseEvent_eq]; exact hms

theorem Effect.schedEffect {t : State} (h : Effect s t) : SchedEffect s t := by
  cases h with
  | powersOn | resets => exact .quiet rfl rfl rfl (.inr (.inl rfl))
  | sleeps => exact .quiet rfl rfl rfl (.inl rfl)
  | endsLoad cfg r => unfold State.endLoad; rw [State.enterReady_eq]; exact .same ⟨rfl, rfl, rfl⟩ rfl
  | wakes p =>
    have hreset := (s.withPins p).wake_atReset
    exact .quiet hreset.plans.2 hreset.plans.1 hreset.scheduler.1 (.inr (.inl hreset.mode))
  | releases b => exact (SchedEffect.same (s := s) (t := s.withLevel b) ⟨rfl, rfl, rfl⟩ rfl).releaseEvent.checkSleep
  | completes c hc => exact State.completeComputation_schedEffect hc
  | accepts e f =>
    obtain ⟨u, hcs, hcfg, hms, hslots, hu⟩ := s.acceptTelegram_cs e f
    rw [hu]
    refine SchedEffect.checkSleep (SchedEffect.demandTelegram (.same (by simp [hcs]) hms) e.kind f hcfg (fun hok => ?_) (.inl hms))
    rw [hslots]; exact writeSlot_ok hok ..
  | cycles =>
    exact SchedEffect.startRequest (s := s) (u := s.withCs { s.cs with timer := none }) (.same ⟨rfl, rfl, rfl⟩ rfl) .timer rfl id (.inl rfl)
  | stays | lines | beginsLoad | windsDown | resumes | shuts | levels | clashes | stopLates | helds | stales | forgets | attempts
  | reopens => exact .same ⟨rfl, rfl, rfl⟩ rfl
  | ignores => exact SchedEffect.checkSleep (.same ⟨rfl, rfl, rfl⟩ rfl)
  | rejects | sends | ackFails | startFails | holdEnds | engineStales => exact SchedEffect.checkSleep (.same (by simp) (by simp))
  | shutsAndBuilds | loses | errs | expires => exact .same (by simp) (by simp)

end

/-! ### The Mode Selector in its ranges (R35, R47, L9) -/

theorem blendOk_advance {b : Blend} (h : BlendOk b) {step : Nat} (hstep : 1 ≤ step) : BlendOk (b.advance step) := by
  by_cases ha : b.active = true
  · rw [Blend.advance, if_pos ha]
    simp only [BlendOk, ha, if_true] at h
    obtain ⟨horigin, hfactor, -⟩ := h
    split
    · simp only [BlendOk, if_true]
      exact ⟨horigin, by omega⟩
    · exact blendOk_inactive
  · rw [Blend.advance, if_neg ha]; exact h

theorem newComputation_selectionOk {u : State} (hcfg : CfgOk u.cfg) (hms : ModeSelOk u.ms) :
    u.newComputation.sel.startCount ≤ 15 ∧ u.newComputation.sel.stopCount ≤ 31 ∧ BlendOk u.newComputation.sel.blend := by
  refine ⟨?_, ?_, chooseBlend_ok hcfg hms _⟩
  · show startCountNext .. ≤ 15
    unfold startCountNext; split <;> omega
  · show stopCountNext .. ≤ 31
    unfold stopCountNext; split <;> omega

section
variable {s t : State}

theorem ComputationOk.fillPlan_within {c : Computation} (h : ComputationOk s) (hc : s.cs.inflight = some c) (hcfg : CfgOk s.cfg) (r : Plan) :
    (fillPlan s.cfg c r).Within := by
  obtain ⟨heq, hok⟩ := h c hc
  rw [heq]; exact Sys2Proof.Machine.fillPlan_within hcfg hok _ r

theorem ComputationOk.fillPlan_powerKept {c : Computation} (h : ComputationOk s) (hc : s.cs.inflight = some c) (hcfg : CfgOk s.cfg) (r : Plan) :
    (fillPlan s.cfg c r).PowerKept s.cfg c := by
  obtain ⟨heq, hok⟩ := h c hc
  rw [heq]; exact Sys2Proof.Machine.fillPlan_powerKept hcfg hok _ r

/-- R35: the engine command of a plan, which the Mode Selector keeps, lies in 0 to 420. -/
theorem ComputationOk.fillPlan_eng_between {c : Computation} (h : ComputationOk s) (hc : s.cs.inflight = some c) (hcfg : CfgOk s.cfg) (r : Plan) :
    Between 0 420 (fillPlan s.cfg c r).eng := by
  obtain ⟨heq, hok⟩ := h c hc
  obtain ⟨hwithin, -⟩ := h.fillPlan_within hc hcfg r
  rw [heq] at hwithin ⊢
  have hbetween := engFinal_between s.cfg hok hwithin
  have := hcfg.caps.1
  omega

theorem Committed.modeSelOk {m : ModeSel} (hm : Committed s m) (hcfg : CfgOk s.cfg) (hcomp : ComputationOk s) (hsel : SelectionOk s) :
    ModeSelOk m := by
  obtain ⟨c, r, hc, rfl⟩ := hm
  obtain ⟨hstart, hstop, hblend⟩ := hsel c hc
  exact ⟨hcomp.fillPlan_eng_between hc hcfg r, hstart, hstop, blendOk_advance hblend hcfg.cycle.2.1⟩

theorem Effect.modeSelOk (h : Effect s t) (hcfg : CfgOk s.cfg) (hcomp : ComputationOk s) (hs : ModeSelOk s.ms ∧ SelectionOk s) :
    ModeSelOk t.ms ∧ SelectionOk t := by
  obtain ⟨hms, hsel⟩ := hs
  have effect := h.schedEffect
  refine ⟨?_, fun k hk => ?_⟩
  · rcases effect.ms with hsame | hreset | hcommit
    · exact hsame ▸ hms
    · rw [hreset]; exact ⟨by decide, by decide, by decide, blendOk_inactive⟩
    · exact hcommit.modeSelOk hcfg hcomp hsel
  · rcases effect.inflight k hk with hold | ⟨u, rfl, hucfg, -, hums⟩
    · exact hsel k hold
    · exact newComputation_selectionOk (hucfg ▸ hcfg) (hums.elim (fun hsame => hsame ▸ hms) fun hcommit => hcommit.modeSelOk hcfg hcomp hsel)

end

/-- Settles O54: each effect keeps the ranges; a commit takes its engine command from a plan within its windows. -/
theorem rangesStayKept : Obligations.RangesStayKept := by
  intro s t h
  rcases step_cases h with ⟨n, fr, p, rfl⟩ | ⟨rest, he⟩
  · exact ⟨id, id, id, id, fun _ _ => id⟩
  · exact ⟨he.cfgOk, he.tableOk, he.slotsOk, he.schedOk, he.modeSelOk⟩

/-! ### The COMPLETE plans (L1 to L3) -/

section
variable {s t : State}

/-- What holds of the plans of `s` and of the plan in flight holds of the plans of `t`. -/
theorem Effect.completePlans {P : Plan → Prop} (h : Effect s t) (hs : CompletePlans P s) (hfill : ∀ q, Filled s q → P q) : CompletePlans P t := by
  obtain ⟨hback, hfront⟩ := hs
  have effect := h.schedEffect
  refine ⟨fun q hq => (effect.back q hq).elim (hback q) (hfill q), fun q hq => ?_⟩
  rcases effect.front q hq with hq | hq | hq
  · exact hfront q hq
  · exact hback q hq
  · exact hfill q hq

/-- R174, R177: the configuration in force changes only where no computation is in flight. -/
theorem Effect.cfg_or_idle (h : Effect s t) (hq : QuietOk s) : t.cfg = s.cfg ∨ t.cs.inflight = none := by
  cases h with
  | powersOn | resets => exact .inr rfl
  | endsLoad cfg r hl =>
    have hidle := (hq (by simp [State.working, hl])).scheduler.1
    right
    unfold State.endLoad; rw [State.enterReady_eq]; exact hidle
  | wakes p => exact .inl (s.withPins p).wake_woken.kept.1
  | releases b => exact .inl (by simp only [State.checkSleep_frame, State.releaseEvent_cfg]; rfl)
  | stays | lines | beginsLoad | windsDown | resumes | sleeps | shuts | levels | clashes | stopLates | helds | stales | forgets | attempts
  | reopens => exact .inl rfl
  | shutsAndBuilds | ignores | rejects | accepts | cycles | completes | loses | errs | sends | expires | ackFails | startFails | holdEnds
  | engineStales => exact .inl (by simp)

theorem Effect.computationOk (h : Effect s t) (hq : QuietOk s) (hslots : s.ti.slots.ok = true) (hs : ComputationOk s) : ComputationOk t := by
  intro k hk
  have hcfg := (h.cfg_or_idle hq).resolve_right fun hidle => by rw [hidle] at hk; cases hk
  rw [hcfg]
  rcases h.schedEffect.inflight k hk with hold | ⟨u, rfl, hucfg, huslots, -⟩
  · exact hs k hold
  · exact ⟨by rw [← hucfg]; rfl, (Intake.ok_judged u.ti u.now).trans (huslots hslots)⟩

end

/-- Settles O59: a plan comes to be held as the fill of the computation in flight, which balances and keeps to the windows and the allowances. -/
theorem completePlansStaySound : Obligations.CompletePlansStaySound := by
  intro s t h
  rcases step_cases h with ⟨n, fr, p, rfl⟩ | ⟨rest, he⟩
  · exact ⟨id, fun _ _ _ hcomp hwithin => ⟨hcomp, hwithin, fun q hq => .inl hq, fun q hq => .inr (.inl hq)⟩⟩
  · refine ⟨fun hs => he.completePlans hs ?_, fun hset hcfg hslots hcomp hwithin => ⟨?_, ?_, ?_⟩⟩
    · rintro q ⟨c, r, -, rfl⟩
      exact fillPlan_balanced ..
    · exact he.computationOk (hset.withPending rest).quiet hslots hcomp
    · refine he.completePlans hwithin ?_
      rintro q ⟨c, r, hc, rfl⟩
      exact hcomp.fillPlan_within hc hcfg r
    · refine he.completePlans ⟨fun q hq => .inl hq, fun q hq => .inr (.inl hq)⟩ ?_
      rintro q ⟨c, r, hc, rfl⟩
      exact .inr (.inr ⟨c, hc, hcomp.fillPlan_powerKept hc hcfg r⟩)

end Sys2Proof.Machine
end

section
/-! PROOFS. CHANNEL_LOST, the shut flags, the winding-down timer and the sleep due (R127, R130, R173, R178) through every step. -/

namespace Sys2Proof.Machine

/-! ### CHANNEL_LOST goes with the LOST channels (R127, R173) -/

/-- CHANNEL_LOST is active exactly for the LOST channels. -/
def LostFaults (s : State) : Prop := ∀ c, (s.cu.get c).hs = .lost ↔ .channelLost c ∈ s.fm.degrading

section
variable {s : State} (h : LostFaults s) (c : Chan)
include h

theorem LostFaults.congr {t : State} (hhs : ∀ d, (t.cu.get d).hs = (s.cu.get d).hs) (hfm : s.fm.Edited NotLost t.fm) : LostFaults t := fun d => by
  rw [hhs d, hfm.channelLost_mem d]; exact h d

theorem LostFaults.withChan {ch : Channel} (hch : ch.hs = .lost ↔ (s.cu.get c).hs = .lost) : LostFaults (s.withChan c ch) := fun d => by
  rw [State.withChan_get]
  split
  · next hd => rw [hd, hch]; exact h c
  · exact h d

theorem LostFaults.formDeadline : LostFaults (s.formDeadline c) := h.withChan c Iff.rfl

theorem LostFaults.expireOldest : LostFaults (s.expireOldest c) := by
  by_cases hi : (s.cu.get c).hs = .idle
  · rw [State.expireOldest_of_idle hi]; exact h.withChan c Iff.rfl
  · intro d
    rw [State.expireOldest_fm s c hi]
    by_cases hd : d = c
    · rw [hd]
      have hget := congrArg Channel.hs (State.expireOldest_get s c hi)
      by_cases hlost : (s.cu.get c).hs = .lost ∨ s.cfg.nRetry ≤ (s.cu.get c).retry + 1
      · rw [hget, if_pos hlost]
        exact iff_of_true rfl (FaultMon.channelLost_mem_degrading ..)
      · rw [hget, if_neg hlost, if_pos rfl, FaultMon.mem_degrading_raise, ← h c]
        simp [not_or.1 hlost]
    · rw [s.expireOldest_get_of_ne hd, h d]
      split_ifs <;> simp [FaultMon.mem_degrading_raise, hd]

theorem LostFaults.answerChannel (st : EchoStatus) (rest : List Sent) : LostFaults (s.answerChannel c st rest) := by
  intro d
  rw [State.answerChannel_fm]
  by_cases hd : d = c
  · rw [hd, State.answerChannel_get]
    have hc := h c
    unfold Channel.answered
    cases hhs : (s.cu.get c).hs with
    | lost =>
      by_cases hr : st = .applied ∧ 1 ≤ (s.cu.get c).readm
      · simp [hr]
      · rw [hhs] at hc
        simp [hr, hc.1 rfl]
    | idle | active | recovery =>
      rw [hhs] at hc
      simp [← hc]
  · rw [State.answerChannel_get_of_ne hd, h d]
    split_ifs <;> simp [hd]

theorem LostFaults.channelSent (q : SeqNo) (x : Int) : LostFaults (s.channelSent c q x) :=
  State.channelSent_keeps (P := LostFaults) (fun _ hu => hu.formDeadline c) (fun _ hu => hu.expireOldest c)
    (fun u e hu => hu.withChan c (by unfold Channel.append; split <;> simp_all)) q x h

end

theorem HandshakeMove.lostFaults {v w : State} (h : HandshakeMove v w) (hv : LostFaults v) : LostFaults w :=
  h.keeps (P := LostFaults) (fun c _ hu => hu.formDeadline c) (fun c _ hu => hu.expireOldest c)
    (fun c _ st _ _ rest _ hu => hu.answerChannel c st rest) (fun _ _ hu => hu) hv

theorem Effect.lostFaults {s t : State} (h : Effect s t) (hs : LostFaults s) : LostFaults t := by
  cases h.channelEffect with
  | kept hcu _ _ hfm =>
    refine hs.congr (fun c => ?_) hfm
    obtain ⟨b, hb⟩ := hcu c
    rw [hb]
  | quiet hcu hfm => exact fun c => iff_of_false (by rw [hcu c]; simp [Channel.reset]) (hfm c)
  | moved hmove hv hfm ht hfm' => exact (hmove.lostFaults (hs.congr (fun c => by rw [hv.1]) hfm)).congr (fun c => by rw [ht.1]) hfm'
  | sent a c sp _ _ hcu _ _ hfm =>
    exact (LostFaults.channelSent (s := s.sendDone a) hs c a.seq sp.value).congr (fun c => by rw [hcu]) hfm

/-! ### The shut flags follow the line (R130) -/

/-- The shut flags, with the line and the configuration they follow, are those of `s`. -/
structure SameShut (s u : State) : Prop where
  flags : ∀ c, (u.cu.get c).shut = (s.cu.get c).shut
  cfg : u.cfg = s.cfg
  line : u.pins.shutdown = s.pins.shutdown
  part : s.su.part = .loading → u.su.part = .loading

section
variable {s u v : State}

theorem SameShut.refl (s : State) : SameShut s s := ⟨fun _ => rfl, rfl, rfl, id⟩

theorem SameShut.congr (h : SameShut s u) (hcu : v.cu = u.cu) (hcfg : v.cfg = u.cfg) (hpins : v.pins = u.pins) (hsu : v.su.part = u.su.part) :
    SameShut s v := by
  obtain ⟨hflags, hcfg', hline, hpart⟩ := h
  exact ⟨fun c => by rw [hcu]; exact hflags c, hcfg.trans hcfg', by rw [hpins]; exact hline, fun hl => hsu.trans (hpart hl)⟩

theorem SameShut.withChan (h : SameShut s u) (c : Chan) {ch : Channel} (hch : ch.shut = (u.cu.get c).shut) : SameShut s (u.withChan c ch) := by
  refine ⟨fun d => ?_, h.cfg, h.line, h.part⟩
  rw [State.withChan_get]
  split
  · next hd => rw [hd, hch]; exact h.flags c
  · exact h.flags d

theorem SameShut.expireOldest (h : SameShut s u) (c : Chan) : SameShut s (u.expireOldest c) := by
  refine ⟨fun d => ?_, by simpa using h.cfg, by simpa using h.line, by simpa using h.part⟩
  by_cases hd : d = c
  · rw [hd, State.expireOldest_shut]; exact h.flags c
  · rw [u.expireOldest_get_of_ne hd]; exact h.flags d

theorem SameShut.answerChannel (h : SameShut s u) (c : Chan) (st : EchoStatus) (rest : List Sent) : SameShut s (u.answerChannel c st rest) := by
  refine ⟨fun d => ?_, by simpa using h.cfg, by simpa using h.line, by simpa using h.part⟩
  by_cases hd : d = c
  · rw [hd, State.answerChannel_get, Channel.answered]
    split <;> exact h.flags c
  · rw [State.answerChannel_get_of_ne hd]; exact h.flags d

theorem SameShut.checkSleep (h : SameShut s u) : SameShut s u.checkSleep := by
  rcases u.checkSleep_cases with ⟨hw, -, -, hs⟩ | ⟨-, hs⟩ <;> rw [hs]
  · refine ⟨fun c => ?_, h.cfg, h.line, fun hl => by cases hw.symm.trans (h.part hl)⟩
    have hget := (everyChan_iff _).1 u.enterSleep_asleep.channels c
    rw [hget]; exact h.flags c
  · exact h

theorem State.routeEcho_sameShut (h : SameShut s u) (c : Chan) (e : EchoWord) (a : Int) : SameShut s (u.routeEcho c e a) :=
  State.routeEcho_keeps (P := SameShut s) (fun _ hv => hv.withChan c rfl) (fun _ hv => hv.expireOldest c)
    (fun _ st _ _ rest _ hv => hv.answerChannel c st rest) (fun _ _ hv => ⟨hv.flags, hv.cfg, hv.line, hv.part⟩) e a h

theorem State.acceptTelegram_sameShut (e : Consumed) (f : Frame) : SameShut s (s.acceptTelegram e f) := by
  have hstored : SameShut s ((s.storeTelegram e.kind f).lookTelegram e.kind f) :=
    (SameShut.refl s).congr (by simp) (by simp) (by simp) (by simp)
  have hechoed : SameShut s (((s.storeTelegram e.kind f).lookTelegram e.kind f).echoTelegram e f) := by
    rcases State.echoTelegram_cases ((s.storeTelegram e.kind f).lookTelegram e.kind f) e f with h | ⟨c, w, a, -, -, h⟩ <;> rw [h]
    · exact hstored
    · exact State.routeEcho_sameShut hstored c w a
  exact hechoed.congr (by simp [State.acceptTelegram]) (by simp) (by simp) (by simp)

theorem State.expireDeadline_sameShut (c : Chan) : SameShut s (s.expireDeadline c) :=
  State.expireDeadline_keeps (P := SameShut s) (fun _ hv => hv.withChan c rfl) (fun _ hv => hv.expireOldest c) (.refl s)

theorem State.channelSent_sameShut (h : SameShut s u) (c : Chan) (q : SeqNo) (x : Int) : SameShut s (u.channelSent c q x) :=
  State.channelSent_keeps (P := SameShut s) (fun _ hv => hv.withChan c rfl) (fun _ hv => hv.expireOldest c)
    (fun _ e hv => hv.withChan c (by unfold Channel.append; split <;> rfl)) q x h

theorem State.reportSend_sameShut (a : Attempt) : SameShut s ((s.sendDone a).reportSend a) := by
  have hdone : SameShut s (s.sendDone a) := (SameShut.refl s).congr rfl rfl rfl rfl
  cases ha : a.telegram with
  | status st =>
    have hreport : (s.sendDone a).reportSend a = s.sendDone a := by simp [State.reportSend, ha]
    rw [hreport]; exact hdone
  | setpoint c sp =>
    obtain ⟨hcu, -⟩ := State.reportSend_channelSent (s := s.sendDone a) ha
    exact (State.channelSent_sameShut hdone c a.seq sp.value).congr hcu (by simp) (by simp) (by simp)

theorem SameShut.releaseEvent (h : SameShut s u) : SameShut s u.releaseEvent :=
  h.congr u.releaseEvent_cu u.releaseEvent_cfg (by rw [State.releaseEvent_eq]) u.releaseEvent_part

theorem SameShut.takePending (h : SameShut s u) : SameShut s u.takePending := h.congr (by simp) (by simp) (by simp) (by simp)

theorem State.completeComputation_sameShut (c : Computation) : SameShut s (s.completeComputation c) := by
  have h : SameShut s (s.finishPlan c (fillPlan s.cfg c s.cs.back.record)) := (SameShut.refl s).congr (by simp) (by simp) (by simp) (by simp)
  unfold State.completeComputation
  generalize s.finishPlan c (fillPlan s.cfg c s.cs.back.record) = u at h
  cases hr : u.cfg.releaseSource with
  | line => rw [State.afterPlan_of_line hr]; exact h.takePending
  | plan => rw [State.afterPlan_of_plan hr]; exact h.releaseEvent.checkSleep.takePending

theorem SameShut.shutOk (h : SameShut s u) (hs : ShutOk s) : ShutOk u := by
  intro hp
  rw [everyChan_iff]
  intro c
  rw [h.flags c, h.cfg, h.line]
  exact (everyChan_iff _).1 (hs fun hl => hp (h.part hl)) c

theorem EntersReady.shutOk {t : State} (h : EntersReady s t) : ShutOk t := by
  intro _
  obtain ⟨-, hpins, -⟩ := h.rest
  rw [hpins]; exact h.shut

theorem State.takeShut_shutOk {t : State} (hcu : t.cu = s.takeShut.cu) (hcfg : t.cfg = s.cfg) (hpins : t.pins = s.pins) : ShutOk t := by
  intro _
  rw [everyChan_iff, hcu, hcfg, hpins]
  exact fun c => by rw [State.takeShut_get]; rfl

theorem Effect.shutOk {t : State} (h : Effect s t) (hs : ShutOk s) : ShutOk t := by
  have same (hu : SameShut s t) : ShutOk t := hu.shutOk hs
  cases h with
  | powersOn | resets => exact fun hp => absurd rfl hp
  | lines p hp =>
    rcases hp with hp | hl
    · exact same ⟨fun _ => rfl, rfl, hp, id⟩
    · exact fun hn => absurd hl hn
  | beginsLoad p hl => exact fun hn => absurd hl hn
  | endsLoad cfg r => exact (s.endLoad_enters cfg r).shutOk
  | wakes p => exact (s.withPins p).wake_woken.ready.shutOk
  | windsDown p hp hr => exact same ⟨fun _ => rfl, rfl, hp, fun hl => by cases hr.symm.trans hl⟩
  | resumes p hp hw => exact same ⟨fun _ => rfl, rfl, hp, fun hl => by cases hw.symm.trans hl⟩
  | sleeps hw =>
    refine same ⟨fun c => ?_, rfl, rfl, fun hl => by cases hw.symm.trans hl⟩
    rw [(everyChan_iff _).1 s.enterSleep_asleep.channels c]
  | shuts p => exact State.takeShut_shutOk (s := s.withPins p) rfl rfl rfl
  | shutsAndBuilds p => exact State.takeShut_shutOk (s := s.withPins p) (by simp) (by simp) (by simp)
  | levels b => exact same ⟨fun _ => rfl, rfl, rfl, id⟩
  | releases b => exact same (SameShut.releaseEvent (s := s) (u := s.withLevel b) ⟨fun _ => rfl, rfl, rfl, id⟩).checkSleep
  | accepts e f => exact same (s.acceptTelegram_sameShut e f).checkSleep
  | completes c => exact same (s.completeComputation_sameShut c)
  | sends a => exact same (s.reportSend_sameShut a).checkSleep
  | expires c => exact same (s.expireDeadline_sameShut c)
  | ignores => exact same (SameShut.refl s).checkSleep
  | rejects | ackFails | startFails | holdEnds | engineStales =>
    exact same (SameShut.checkSleep ((SameShut.refl s).congr (by simp) (by simp) (by simp) (by simp)))
  | stays | clashes | stopLates | helds | stales | forgets | attempts | reopens => exact hs
  | cycles | loses | errs => exact same ((SameShut.refl s).congr (by simp) (by simp) (by simp) (by simp))

end

/-! ### The winding-down timer (R178) -/

section
variable {s u : State}

theorem WindingOk.congr (h : WindingOk s) (htimer : u.su.windTimer = s.su.windTimer) (hpart : u.su.part = s.su.part) : WindingOk u := by
  unfold WindingOk; rw [htimer, hpart]; exact h

theorem WindingOk.checkSleep (h : WindingOk u) : WindingOk u.checkSleep := by
  rcases u.checkSleep_cases with ⟨-, -, -, hs⟩ | ⟨-, hs⟩ <;> rw [hs]
  · exact iff_of_false (by simp [State.enterSleep]) (by simp [State.enterSleep])
  · exact h

theorem Startup.afterRelease_windTimer (su : Startup) (p : Plan) : (su.afterRelease p).windTimer = su.windTimer := by
  unfold Startup.afterRelease; split <;> rfl

theorem WindingOk.releaseEvent (h : WindingOk u) : WindingOk u.releaseEvent := by
  rcases u.releaseEvent_cases with ⟨p, hb, hi, -⟩ | ⟨hno, -⟩
  · have hsu := (State.releaseEvent_swaps hb hi).2
    exact h.congr (by rw [hsu, Startup.afterRelease_windTimer]) (by rw [hsu, Startup.afterRelease_part])
  · have hsu := (State.releaseEvent_keeps hno).2
    exact h.congr (by rw [hsu]) (by rw [hsu])

theorem WindingOk.afterPlan (h : WindingOk u) : WindingOk u.afterPlan := by
  have pending {v : State} (hv : WindingOk v) : WindingOk v.takePending := hv.congr (by simp) (by simp)
  cases hr : u.cfg.releaseSource with
  | line => rw [State.afterPlan_of_line hr]; exact pending h
  | plan => rw [State.afterPlan_of_plan hr]; exact pending h.releaseEvent.checkSleep

theorem State.enterReady_windingOk (h : s.su.windTimer = none) : WindingOk s.enterReady := by
  rw [State.enterReady_eq]
  unfold WindingOk Startup.atReady
  dsimp only
  split
  · simp [h]
  · simp

theorem Effect.windingOk {t : State} (h : Effect s t) (hs : WindingOk s) : WindingOk t := by
  have same (hu : t.su = s.su) : WindingOk t := hs.congr (by rw [hu]) (by rw [hu])
  cases h with
  | powersOn | resets => simp [WindingOk, State.reset]
  | endsLoad cfg r hl =>
    have hidle : s.su.windTimer = none := by
      cases ht : s.su.windTimer with
      | none => rfl
      | some d => cases (hs.1 (by rw [ht]; rfl)).symm.trans hl
    exact State.enterReady_windingOk hidle
  | wakes p => exact State.enterReady_windingOk rfl
  | windsDown p => exact iff_of_true rfl rfl
  | resumes p => exact iff_of_false (by simp) (by simp)
  | sleeps => exact iff_of_false (by simp [State.enterSleep]) (by simp [State.enterSleep])
  | releases b => exact (WindingOk.releaseEvent (u := s.withLevel b) hs).checkSleep
  | completes c =>
    unfold State.completeComputation
    exact WindingOk.afterPlan (hs.congr (by simp) (by simp))
  | ignores => exact hs.checkSleep
  | rejects | accepts | sends | ackFails | startFails | holdEnds | engineStales =>
    exact WindingOk.checkSleep (hs.congr (by simp) (by simp))
  | beginsLoad => exact hs
  | stays | lines | levels | clashes | stopLates | helds | stales | forgets | attempts | reopens | shuts => exact same rfl
  | shutsAndBuilds | cycles | loses | errs | expires => exact same (by simp)

/-! ### No sleep is overdue (R178) -/

theorem NoSleepDue.congr (h : NoSleepDue s) (hsu : u.su = s.su) (hen : u.en.state = s.en.state) : NoSleepDue u := by
  unfold NoSleepDue SleepDue; rw [hsu, hen]; exact h

theorem noSleepDue_of_part (h : s.su.part ≠ .windingDown) : NoSleepDue s := fun hdue => h hdue.1

theorem noSleepDue_of_mark (h : s.su.zeroRelease = false) : NoSleepDue s := fun hdue => by cases h.symm.trans hdue.2.1

/-- R178: after the sleep check none is due. -/
theorem State.checkSleep_noSleepDue (u : State) : NoSleepDue u.checkSleep := by
  obtain ⟨hsleep, hstay⟩ := u.checkSleep_settles
  by_cases hdue : SleepDue u
  · exact noSleepDue_of_part (by rw [(hsleep hdue).part.1]; decide)
  · rw [hstay hdue]; exact hdue

theorem State.enterReady_noSleepDue (s : State) : NoSleepDue s.enterReady := by
  rw [State.enterReady_eq]
  cases hi : s.pins.ign with
  | true => exact noSleepDue_of_part (by simp [Startup.atReady])
  | false => exact noSleepDue_of_mark (by simp [Startup.atReady])

/-- R138, R139, R145: a hand-over never leads to a state that counts as stopped. -/
theorem stopped_of_handedOver {n : Neg} {now : Nat} {a b c : Bool} (h : (n.handedOver now a b c).state = .stopped ∨
    (n.handedOver now a b c).state = .unknown ∨ (n.handedOver now a b c).state = .lockedOut) :
    n.state = .stopped ∨ n.state = .unknown ∨ n.state = .lockedOut := by
  unfold Neg.handedOver at h
  split_ifs at h
  · simp at h
  · simp at h
  · simp at h
  · exact h

theorem State.completeComputation_noSleepDue (h : NoSleepDue s) (c : Computation) : NoSleepDue (s.completeComputation c) := by
  unfold State.completeComputation
  have hen := (s.finishPlan_reported c (fillPlan s.cfg c s.cs.back.record)).handOver
  have hsu : (s.finishPlan c (fillPlan s.cfg c s.cs.back.record)).su = s.su := by simp
  generalize s.finishPlan c (fillPlan s.cfg c s.cs.back.record) = u at hen hsu
  cases hr : u.cfg.releaseSource with
  | line =>
    rw [State.afterPlan_of_line hr]
    have hu : NoSleepDue u := fun ⟨hp, hz, hst⟩ => h ⟨hsu ▸ hp, hsu ▸ hz, stopped_of_handedOver (hen ▸ hst)⟩
    exact hu.congr (by simp) (by simp)
  | plan =>
    rw [State.afterPlan_of_plan hr]
    exact u.releaseEvent.checkSleep_noSleepDue.congr (by simp) (by simp)

theorem Effect.noSleepDue {t : State} (h : Effect s t) (hs : NoSleepDue s) : NoSleepDue t := by
  cases h with
  | powersOn | resets => exact noSleepDue_of_part (by simp [State.reset])
  | beginsLoad p hl => exact noSleepDue_of_part (by simp [hl])
  | endsLoad | wakes => exact State.enterReady_noSleepDue _
  | windsDown => exact noSleepDue_of_mark rfl
  | resumes => exact noSleepDue_of_part (by simp)
  | sleeps => exact noSleepDue_of_part (by simp [State.enterSleep])
  | completes c => exact State.completeComputation_noSleepDue hs c
  | releases | ignores | rejects | accepts | sends | ackFails | startFails | holdEnds | engineStales => exact State.checkSleep_noSleepDue _
  | stays | lines | levels | clashes | stopLates | helds | stales | forgets | attempts | reopens | shuts => exact hs
  | shutsAndBuilds | cycles | loses | errs | expires => exact hs.congr (by simp) (by simp)

end

/-- Settles O60: the five invariants, each kept by each effect. -/
theorem linesAndTimersStaySound : Obligations.LinesAndTimersStaySound := by
  intro s t h
  simp only [LostFaultOk, everyChan_iff]
  rcases step_cases h with ⟨n, fr, p, rfl⟩ | ⟨rest, he⟩
  · exact ⟨id, id, id, id, id⟩
  · exact ⟨he.lostFaults, he.shutOk, he.linkOk, he.windingOk, he.noSleepDue⟩

end Sys2Proof.Machine
end

section
/-! PROOFS. The request field (R136, L6): the waiting ENG telegram carries the request supplied through every step, and no START leaves in a ZERO_EMISSION zone. -/

namespace Sys2Proof.Machine

/-- A waiting ENG telegram carries this request. -/
def EngCarries (r : Request) (s : State) : Prop := ∀ sp ∈ s.bi.queue.get .eng, sp.request = r

section
variable {s u : State} {r : Request}

theorem EngCarries.congr (h : EngCarries r s) (hq : u.bi.queue.get .eng = s.bi.queue.get .eng) : EngCarries r u := by
  unfold EngCarries; rw [hq]; exact h

theorem engCarries_of_none (hq : u.bi.queue.get .eng = none) : EngCarries r u := fun sp hsp => by rw [hq] at hsp; cases hsp

theorem engCarries_of_some {sp : Setpoint} (hq : u.bi.queue.get .eng = some sp) (hr : sp.request = r) : EngCarries r u := fun x hx => by
  rw [hq] at hx; cases hx; exact hr

/-- R136: the request supplied is that of the Negotiator's state and the confirmed zone. -/
theorem RequestOk.of_carries (h : EngCarries r s) (hr : s.request = r) : RequestOk s := by subst hr; exact h

theorem RequestOk.congr (h : RequestOk s) (hq : u.bi.queue.get .eng = s.bi.queue.get .eng) (hen : u.en.state = s.en.state)
    (hzone : u.ti.zone = s.ti.zone) : RequestOk u :=
  .of_carries (EngCarries.congr (s := s) h hq) (State.request_congr hen hzone)

theorem requestOk_of_none (hq : u.bi.queue.get .eng = none) : RequestOk u := engCarries_of_none hq

theorem State.syncRequest_request (s : State) (old : Request) : (s.syncRequest old).request = s.request := State.request_congr (by simp) (by simp)

/-- R136, R117: a change of the request supplied reaches the telegram that waits. -/
theorem State.syncRequest_requestOk (h : EngCarries r s) : RequestOk (s.syncRequest r) :=
  .of_carries (s.syncRequest_eng r h) (s.syncRequest_request r)

theorem RequestOk.checkSleep (h : RequestOk u) : RequestOk u.checkSleep := by
  rcases u.checkSleep_cases with ⟨-, -, -, hs⟩ | ⟨-, hs⟩ <;> rw [hs]
  · exact requestOk_of_none rfl
  · exact h

theorem RequestOk.build (h : RequestOk s) (c : Chan) (x : Int) : RequestOk (s.build c x) := by
  refine .of_carries (r := s.request) ?_ (State.request_congr (by simp) (by simp))
  have hget := State.build_get s c .eng x
  by_cases hc : Chan.eng = c
  · rw [if_pos hc] at hget
    exact engCarries_of_some hget (by subst hc; rfl)
  · rw [if_neg hc] at hget; exact EngCarries.congr h hget

theorem RequestOk.buildAll (h : RequestOk s) (m : ChanMode) (p : Plan) : RequestOk (s.buildAll m p) :=
  List.foldlRecOn (motive := RequestOk) allChans _ h fun v hv c _ => by
    split
    · exact hv.build c _
    · exact hv

theorem RequestOk.buildShut (h : RequestOk s) : RequestOk s.buildShut :=
  List.foldlRecOn (motive := RequestOk) allChans _ h fun v hv c _ => by
    split
    · exact hv.build c _
    · exact hv

theorem RequestOk.releaseEvent (h : RequestOk s) : RequestOk s.releaseEvent := by
  have sent (v : State) (hv : RequestOk v) : RequestOk v.sendGrouped := by
    unfold State.sendGrouped
    split
    · exact hv.buildAll _ _
    · exact hv
  rcases s.releaseEvent_cases with ⟨p, -, -, hs⟩ | ⟨-, hs⟩ <;> rw [hs]
  · rw [State.releaseReport_eq]
    exact (sent (s.withCs { s.cs with front := some p, back := .empty }) h).congr (by simp) (by simp) (by simp)
  · exact sent s h

/-- R117: the rebuild at entry to LOST carries the request supplied. -/
theorem EngCarries.expireOldest (h : EngCarries r s) (hr : s.request = r) (c : Chan) : EngCarries r (s.expireOldest c) := by
  rcases s.expireOldest_bi c with hbi | hbi
  · exact h.congr (by rw [hbi])
  · by_cases hc : Chan.eng = c
    · intro sp hsp
      rw [hbi, State.rebuildLost_get, if_pos hc] at hsp
      obtain ⟨old, -, rfl⟩ := Option.map_eq_some_iff.1 hsp
      simpa [← hc] using hr
    · exact h.congr (by rw [hbi, State.rebuildLost_get, if_neg hc])

/-- The queue carries the request supplied, which is `r`. -/
def Carries (r : Request) (s : State) : Prop := EngCarries r s ∧ s.request = r

theorem Carries.expireOldest (h : Carries r s) (c : Chan) : Carries r (s.expireOldest c) :=
  ⟨h.1.expireOldest h.2 c, (State.request_congr (by simp) (by simp)).trans h.2⟩

theorem Carries.congr (h : Carries r s) (hq : u.bi.queue = s.bi.queue) (hen : u.en.state = s.en.state) (hzone : u.ti.zone = s.ti.zone) :
    Carries r u :=
  ⟨h.1.congr (by rw [hq]), (State.request_congr hen hzone).trans h.2⟩

theorem Carries.channelSent (h : Carries r s) (c : Chan) (q : SeqNo) (x : Int) : Carries r (s.channelSent c q x) :=
  State.channelSent_keeps (P := Carries r) (fun _ hv => hv) (fun _ hv => hv.expireOldest c) (fun _ _ hv => hv) q x h

theorem Carries.routeEcho (h : Carries r s) (c : Chan) (e : EchoWord) (a : Int) : Carries r (s.routeEcho c e a) :=
  State.routeEcho_keeps (P := Carries r) (fun _ hv => hv) (fun _ hv => hv.expireOldest c)
    (fun v st _ _ rest _ hv => hv.congr (by simp) (by simp) (by simp)) (fun _ _ hv => hv) e a h

theorem Carries.expireDeadline (h : Carries r s) (c : Chan) : Carries r (s.expireDeadline c) :=
  State.expireDeadline_keeps (P := Carries r) (fun _ hv => hv) (fun _ hv => hv.expireOldest c) h

theorem State.lookTelegram_zone (k : Kind) (f : Frame) (h : k ≠ .zone) : (s.lookTelegram k f).ti.zone = s.ti.zone := by
  cases k with
  | zone => exact absurd rfl h
  | demand | battery | engine | mgaEcho | mgbEcho | brake | gearbox | derate => rfl

/-- R104, R111: a ZONE telegram, which alone can change the request before the hand-off, carries no echo. -/
theorem State.echoTelegram_carries (h : RequestOk s) (e : Consumed) (f : Frame) :
    EngCarries s.request (((s.storeTelegram e.kind f).lookTelegram e.kind f).echoTelegram e f) := by
  have hstored : EngCarries s.request ((s.storeTelegram e.kind f).lookTelegram e.kind f) := EngCarries.congr (s := s) h (by simp)
  rcases State.echoTelegram_cases ((s.storeTelegram e.kind f).lookTelegram e.kind f) e f with hs | ⟨c, w, a, -, hecho, hs⟩ <;> rw [hs]
  · exact hstored
  · have hkind : e.kind ≠ .zone := fun hz => by rw [hz] at hecho; cases hecho
    refine (Carries.routeEcho ⟨hstored, State.request_congr (by simp) ?_⟩ c w a).1
    rw [State.lookTelegram_zone _ _ hkind, State.storeTelegram_ti]

theorem State.acceptTelegram_requestOk (h : RequestOk s) (e : Consumed) (f : Frame) : RequestOk (s.acceptTelegram e f) := by
  have hechoed := State.echoTelegram_carries h e f
  simp only [State.acceptTelegram]
  generalize ((s.storeTelegram e.kind f).lookTelegram e.kind f).echoTelegram e f = v at hechoed
  have hhanded : EngCarries s.request (v.handTelegram e.kind f) := hechoed.congr (by simp)
  exact (State.syncRequest_requestOk hhanded).congr (by simp) (by simp) (by simp)

theorem State.reportSend_requestOk (h : RequestOk s) (a : Attempt) : RequestOk ((s.sendDone a).reportSend a) := by
  have hdone : Carries s.request (s.sendDone a) := by
    refine ⟨EngCarries.congr (s := s) h ?_, State.request_congr rfl rfl⟩
    unfold State.sendDone; cases a.telegram <;> rfl
  cases ha : a.telegram with
  | status st =>
    have hreport : (s.sendDone a).reportSend a = s.sendDone a := by simp [State.reportSend, ha]
    rw [hreport]; exact .of_carries hdone.1 hdone.2
  | setpoint c sp =>
    rw [State.reportSend_setpoint ha]
    have hsent := hdone.channelSent c a.seq sp.value
    generalize (s.sendDone a).channelSent c a.seq sp.value = v at hsent
    split
    · refine State.syncRequest_requestOk (EngCarries.congr (s := v) ?_ (by simp))
      rw [hsent.2]; exact hsent.1
    · exact .of_carries hsent.1 hsent.2

/-- R85, steps 2 and 3: the hand-over's request reaches the waiting telegram, by its solo build or by the rebuild. -/
theorem State.finishPlan_requestOk (h : RequestOk s) (c : Computation) (p : Plan) : RequestOk (s.finishPlan c p) := by
  have hrep := s.finishPlan_reported c p
  generalize s.finishPlan c p = v at hrep
  show EngCarries v.request v
  cases hm : s.cfg.chanMode.get .eng with
  | solo => exact engCarries_of_some (hrep.solo .eng hm) rfl
  | grouped =>
    intro sp hsp
    rw [show v.bi.queue.get .eng = _ from hrep.request hm] at hsp
    obtain ⟨old, hold, rfl⟩ := Option.map_eq_some_iff.1 hsp
    dsimp only
    split
    · next hsame => rw [hsame]; exact h old hold
    · rfl

theorem State.completeComputation_requestOk (h : RequestOk s) (c : Computation) : RequestOk (s.completeComputation c) := by
  have hfinished := State.finishPlan_requestOk h c (fillPlan s.cfg c s.cs.back.record)
  have pending {v : State} (hv : RequestOk v) : RequestOk v.takePending := hv.congr (by simp) (by simp) (by simp)
  unfold State.completeComputation
  generalize s.finishPlan c (fillPlan s.cfg c s.cs.back.record) = v at hfinished
  cases hr : v.cfg.releaseSource with
  | line => rw [State.afterPlan_of_line hr]; exact pending hfinished
  | plan => rw [State.afterPlan_of_plan hr]; exact pending hfinished.releaseEvent.checkSleep

theorem RequestOk.returnTelegram (h : RequestOk s) (x : Outgoing) : RequestOk ((s.withBi { s.bi with tx := none }).returnTelegram x) := by
  rw [State.returnTelegram_ended]
  show EngCarries s.request _
  cases x with
  | status st => rw [State.returnTelegram_status]; exact h
  | setpoint c sp =>
    rw [State.returnTelegram_setpoint]
    by_cases hq : s.bi.queue.get c = none
    · simp only [if_pos hq]
      by_cases hc : Chan.eng = c
      · subst hc
        exact engCarries_of_some (sp := { sp with request := s.request }) rfl rfl
      · refine EngCarries.congr (s := s) h ?_
        exact PerChan.get_set_of_ne _ _ hc
    · simp only [if_neg hq]; exact h

theorem State.countError_queue (s : State) : s.countError.bi.queue = s.bi.queue := by
  unfold State.countError; dsimp only; split <;> simp

theorem RequestOk.of_sync (h : RequestOk s) (hq : u.bi = s.bi) : RequestOk (u.syncRequest s.request) :=
  State.syncRequest_requestOk (EngCarries.congr (s := s) h (by rw [hq]))

theorem Effect.requestOk {t : State} (h : Effect s t) (hs : RequestOk s) : RequestOk t := by
  cases h with
  | powersOn | resets | sleeps => exact requestOk_of_none rfl
  | endsLoad cfg r => exact hs.congr (by simp [State.endLoad]) (by simp [State.endLoad]) (by simp [State.endLoad])
  | wakes p => exact requestOk_of_none (by rw [(s.withPins p).wake_atReset.queue.1]; rfl)
  | shutsAndBuilds p => exact RequestOk.buildShut (s := (s.withPins p).takeShut) hs
  | releases b => exact (RequestOk.releaseEvent (s := s.withLevel b) hs).checkSleep
  | accepts e f => exact (State.acceptTelegram_requestOk hs e f).checkSleep
  | completes c => exact State.completeComputation_requestOk hs c
  | attempts x =>
    cases x with
    | status => exact hs
    | setpoint c sp =>
      by_cases hc : Chan.eng = c
      · subst hc; exact requestOk_of_none rfl
      · exact hs.congr (PerChan.get_set_of_ne _ _ hc) rfl rfl
  | loses a => exact hs.returnTelegram a.telegram
  | errs a => exact (hs.returnTelegram a.telegram).congr (by rw [State.countError_queue]) (by simp) (by simp)
  | sends a => exact (State.reportSend_requestOk hs a).checkSleep
  | expires c =>
    obtain ⟨hcarries, hr⟩ := Carries.expireDeadline (r := s.request) ⟨hs, rfl⟩ c
    exact .of_carries hcarries hr
  | ackFails | startFails | engineStales => exact (RequestOk.of_sync hs (by simp)).checkSleep
  | holdEnds hi =>
    refine RequestOk.checkSleep (RequestOk.of_carries (r := s.request) (EngCarries.congr (s := s) hs rfl) ?_)
    have hnone : s.request = .none := by simp [State.request, hi]
    rw [hnone]; rfl
  | ignores => exact hs.checkSleep
  | rejects => exact RequestOk.checkSleep (hs.congr (by simp) (by simp) (by simp [State.rejectTelegram]))
  | stays | lines | beginsLoad | windsDown | resumes | shuts | levels | clashes | reopens | stopLates | helds | stales | forgets => exact hs
  | cycles => exact hs.congr (by simp) (by simp) (by simp)

end

theorem Bus.setpoint_waits {b : Bus} {c : Chan} {sp : Setpoint} (h : Outgoing.setpoint c sp ∈ b.waiting) : b.queue.get c = some sp := by
  rcases List.mem_append.1 h with h | h
  · obtain ⟨d, -, hd⟩ := List.mem_filterMap.1 h
    obtain ⟨x, hx, hxe⟩ := Option.map_eq_some_iff.1 hd
    cases hxe; exact hx
  · obtain ⟨st, -, hst⟩ := Option.map_eq_some_iff.1 (Option.mem_toList.1 h)
    cases hst

theorem Bus.choose_mem {b : Bus} {cfg : Cfg} {x : Outgoing} (h : b.choose cfg = some x) : x ∈ b.waiting := by
  have hne : b.waiting ≠ [] := fun hnil => by simp [Bus.choose, hnil] at h
  obtain ⟨y, hy, hmem, -⟩ := Bus.choose_precedes cfg hne
  cases h.symm.trans hy
  exact hmem

/-- Settles O52: each effect leaves the waiting ENG telegram with the request supplied, and the attempt takes it as it waits. -/
theorem zeroEmissionStopsTheStart : Obligations.ZeroEmissionStopsTheStart := by
  refine ⟨fun s t hs h => ?_, fun s t a sp hs hzone htx h ha htel hstart => ?_⟩
  · rcases step_cases h with ⟨n, fr, p, rfl⟩ | ⟨rest, he⟩
    · exact hs
    · exact he.requestOk hs
  · have h : execAttemptStart s = .next t := h
    have idle : t ≠ s := fun hts => by rw [hts, htx] at ha; cases ha
    unfold execAttemptStart at h
    split at h
    · split at h
      · next x hx =>
        cases h
        cases ha
        have htel : x = .setpoint .eng sp := htel
        have hwaits : s.bi.queue.get .eng = some sp := Bus.setpoint_waits (htel ▸ Bus.choose_mem hx)
        have hrequest := hs sp hwaits
        exact ((s.request_start).1 (hrequest.symm.trans hstart)).2 hzone
      · cases h; exact idle rfl
    · cases h; exact idle rfl

end Sys2Proof.Machine
end

section
/-! PROOFS. The telegram on the bus (spec/09, R151, R152): the fields read back from the bits that carry them. -/

namespace Sys2Proof.Machine

/-! ### Numbers as bits (R151) -/

theorem length_bitsOfNat (w n : Nat) : (bitsOfNat w n).length = w := by
  induction w with
  | zero => rfl
  | succ w ih => rw [bitsOfNat, List.length_cons, ih]

theorem foldl_bitsOfNat (w n acc : Nat) : (bitsOfNat w n).foldl (fun n b => 2 * n + b.toNat) acc = acc * 2 ^ w + n % 2 ^ w := by
  induction w generalizing acc with
  | zero => simp [bitsOfNat, Nat.mod_one]
  | succ w ih =>
    rw [bitsOfNat, List.foldl_cons, ih, Nat.mod_pow_succ, ← Nat.toNat_testBit]
    ring

theorem natOfBits_bitsOfNat {w n : Nat} (h : n < 2 ^ w) : natOfBits (bitsOfNat w n) = n := by
  rw [natOfBits, foldl_bitsOfNat, zero_mul, zero_add, Nat.mod_eq_of_lt h]

/-! ### Words as bits (R151) -/

theorem length_flatMap_bits (ws : List Word) : (ws.flatMap (fun w => bitsOfNat 16 w.toNat)).length = 16 * ws.length := by
  induction ws with
  | nil => rfl
  | cons w ws ih => rw [List.flatMap_cons, List.length_append, length_bitsOfNat, ih, List.length_cons]; omega

theorem wordsOfBits_flatMap (ws : List Word) (tail : List Bool) :
    wordsOfBits ws.length (ws.flatMap (fun w => bitsOfNat 16 w.toNat) ++ tail) = ws := by
  induction ws with
  | nil => rfl
  | cons w ws ih =>
    rw [List.flatMap_cons, List.append_assoc, List.length_cons, wordsOfBits, List.take_left' (length_bitsOfNat ..),
      List.drop_left' (length_bitsOfNat ..), natOfBits_bitsOfNat w.isLt, BitVec.ofNat_toNat, BitVec.setWidth_eq, ih]

/-! ### The telegram (R151, R152) -/

theorem Frame.length_body (f : Frame) : f.body.length = 30 + 16 * f.payload.length := by
  simp only [Frame.body, List.length_append, length_bitsOfNat, length_flatMap_bits]

theorem Frame.length_bits (f : Frame) : f.bits.length = 51 + 16 * f.payload.length := by
  simp only [Frame.bits, List.length_cons, List.length_append, length_bitsOfNat, f.length_body, List.length_nil]
  omega

/-- A number read back from the bits that stand first. -/
theorem natOfBits_take {w n : Nat} (h : n < 2 ^ w) (after : List Bool) : natOfBits ((bitsOfNat w n ++ after).take w) = n := by
  rw [List.take_left' (length_bitsOfNat ..), natOfBits_bitsOfNat h]

/-- The bits after a field, from those that begin with it. -/
theorem drop_next {l field after : List Bool} {i k j : Nat} (h : l.drop i = field ++ after) (hk : field.length = k) (hj : j = i + k) :
    l.drop j = after := by
  rw [hj, ← List.drop_drop, h, List.drop_left' hk]

/-- Settles O53: each field is read back from its place, and the check from the body before it. -/
theorem frameRoundTrip : Obligations.FrameRoundTrip := by
  rintro f htopic htopic' hsource hpayload
  refine ⟨?_, f.length_bits⟩
  have hbody : f.body.length = 30 + 16 * f.payload.length := f.length_body
  have hcrc : (crc16 f.body).toNat < 2 ^ 16 := (crc16 f.body).isLt
  have hbits : f.bits = false :: (f.body ++ bitsOfNat 16 (crc16 f.body).toNat ++ [false, true, false, true]) := rfl
  generalize hc : (crc16 f.body).toNat = crc at hcrc hbits
  generalize hrest : f.body ++ bitsOfNat 16 crc ++ [false, true, false, true] = rest at hbits
  have hlength : rest.length = 50 + 16 * f.payload.length := by
    have := f.length_bits
    rw [hbits, List.length_cons] at this
    omega
  have htake : rest.take (30 + 16 * f.payload.length) = f.body := by rw [← hrest, List.append_assoc]; exact List.take_left' hbody
  have h0 : rest.drop 0 = f.body ++ bitsOfNat 16 crc ++ [false, true, false, true] := hrest.symm
  simp only [Frame.body, List.append_assoc] at h0
  have h9 := drop_next (j := 9) h0 (length_bitsOfNat ..) rfl
  have h14 := drop_next (j := 14) h9 (length_bitsOfNat ..) rfl
  have h18 := drop_next (j := 18) h14 (length_bitsOfNat ..) rfl
  have h22 := drop_next (j := 22) h18 (length_bitsOfNat ..) rfl
  have h30 := drop_next (j := 30) h22 (length_bitsOfNat ..) rfl
  have hcheck := drop_next (j := 30 + 16 * f.payload.length) h30 (length_flatMap_bits _) rfl
  have hmarker := drop_next (j := 46 + 16 * f.payload.length) hcheck (length_bitsOfNat ..) (by omega)
  rw [List.drop_zero] at h0
  have hcount : natOfBits ((rest.drop 18).take 4) = f.payload.length := by rw [h18]; exact natOfBits_take (by omega) _
  rw [hbits]
  simp only [receiveFrame, hcount]
  rw [hlength, htake, hmarker, hcheck, h30, h22, h14, h9, h0, wordsOfBits_flatMap, natOfBits_take (by omega), natOfBits_take (by omega),
    natOfBits_take f.seq.isLt, natOfBits_take f.flags.isLt, natOfBits_take hcrc, if_pos (by refine ⟨?_, ?_, hpayload, rfl, rfl, hc⟩ <;> omega),
    BitVec.ofNat_toNat, BitVec.ofNat_toNat, BitVec.setWidth_eq, BitVec.setWidth_eq]

end Sys2Proof.Machine
end

section
/-! PROOFS. The machine (spec/00, spec/95): one step, one millisecond of the time base, the timed commands due, the frame of every command, and the reset. -/

namespace Sys2Proof.Machine

/-- Settles O1: `step` takes the command at the front off the queue. -/
theorem stepRunsFrontCommand : Obligations.StepRunsFrontCommand := by
  intro c rest s h
  rw [step, h]

/-! ### One millisecond (log entries 2 and 5) -/

theorem shuffle_perm (k n : Nat) (l : List Instr) : (shuffle k n l).1.Perm l := by
  induction k generalizing n l with
  | zero => exact .refl l
  | succ k ih =>
    match l with
    | [] => exact .refl _
    | [x] => exact .refl _
    | x :: y :: l =>
      have hi : Config.freeChoice n % (x :: y :: l).length < (x :: y :: l).length := Nat.mod_lt _ (Nat.succ_pos _)
      simp only [shuffle]
      rw [List.getD_eq_getElem _ _ hi]
      exact ((ih _ _).cons _).trans (List.getElem_cons_eraseIdx_perm hi)

/-- Settles O2: the tick moves the time base and shuffles the commands due into the queue. -/
theorem idleStepPassesOneMillisecond : Obligations.IdleStepPassesOneMillisecond := by
  intro s h
  refine ⟨s.tick, by rw [step, h], rfl, shuffle_perm _ _ _, fun b hnow hfree hpending => ?_⟩
  cases b with
  | now => exact absurd rfl hnow
  | free => exact absurd rfl hfree
  | pending => exact absurd rfl hpending
  | pins | cfg | su | bi | ti | cs | eb | ms | cu | en | fm => rfl

/-! ### The timed commands due (log entry 2) -/

theorem mem_dueIf {b : Bool} {i j : Instr} : i ∈ dueIf b j ↔ b = true ∧ i = j := by
  cases b <;> simp [dueIf]

theorem loadDue_iff (s : State) : loadDue s = true ↔ ∃ b, s.su.part = .loading ∧ s.su.load = .reading b ∧ b + 50 ≤ s.now := by
  unfold loadDue
  split <;> simp_all

theorem completionDue_iff (s : State) : completionDue s = true ↔ ∃ c, s.cs.inflight = some c ∧ c.startedAt + 1 ≤ s.now := by
  unfold completionDue
  split <;> simp_all

theorem agedTo_iff (s : State) (k : Kind) (f : Freshness) : s.agedTo k = some f ↔ ∃ b st l, s.ti.slots.stamp k = some (b, st) ∧
    findKind s.ti.table k = some l ∧ st ≠ f ∧ freshnessOfAge l.fresh l.hold (s.now - b) = f := by
  unfold State.agedTo
  split
  · next b st l hstamp hkind =>
    dsimp only
    split
    · next hsame =>
      simp only [reduceCtorEq, false_iff]
      rintro ⟨b', st', l', hstamp', hkind', hne, hf⟩
      cases hstamp.symm.trans hstamp'
      cases hkind.symm.trans hkind'
      exact hne (hsame.symm.trans hf)
    · next hne =>
      simp only [Option.some.injEq]
      constructor
      · rintro rfl
        exact ⟨b, st, l, hstamp, hkind, fun h => hne h.symm, rfl⟩
      · rintro ⟨b', st', l', hstamp', hkind', -, hf⟩
        cases hstamp.symm.trans hstamp'
        cases hkind.symm.trans hkind'
        exact hf
  · next hkind =>
    simp only [reduceCtorEq, false_iff]
    rintro ⟨b, st, l, -, hkind', -⟩
    cases hkind.symm.trans hkind'
  · next hstamp =>
    simp only [reduceCtorEq, false_iff]
    rintro ⟨b, st, l, hstamp', -⟩
    cases hstamp.symm.trans hstamp'

theorem mem_agingDue {s : State} {k : Kind} {i : Instr} : i ∈ agingDue s k ↔
    (s.agedTo k = some .held ∧ i = .slotHeld k) ∨ (s.agedTo k = some .stale ∧ i = .slotStale k) := by
  unfold agingDue
  split <;> simp_all

theorem freshnessOfAge_held {fresh hold age : Nat} : freshnessOfAge fresh hold age = .held ↔ fresh < age ∧ age ≤ hold := by
  unfold freshnessOfAge; split_ifs <;> simp <;> omega

theorem freshnessOfAge_stale {fresh hold age : Nat} : freshnessOfAge fresh hold age = .stale ↔ fresh < age ∧ hold < age := by
  unfold freshnessOfAge; split_ifs <;> simp <;> omega

theorem mem_allKinds (k : Kind) : k ∈ allKinds := by cases k <;> decide

theorem mem_allChans (c : Chan) : c ∈ allChans := by cases c <;> decide

theorem State.mem_dueEvents (s : State) (i : Instr) : i ∈ s.dueEvents ↔
    (loadDue s = true ∧ i = .loadTimeout) ∨ (timerDue s.su.windTimer s.now = true ∧ i = .windingDownTimeout) ∨
    (completionDue s = true ∧ i = .computationComplete) ∨ (timerDue s.cs.timer s.now = true ∧ i = .cycleTimerExpiry) ∨
    (timerDue s.bi.silentTimer s.now = true ∧ i = .silentTimerExpiry) ∨
    (∃ c, timerDue (s.cu.get c).deadline s.now = true ∧ i = .echoDeadlineExpiry c) ∨
    (timerDue s.en.ack s.now = true ∧ i = .ackTimerExpiry) ∨ (timerDue s.en.start s.now = true ∧ i = .startTimerExpiry) ∨
    (timerDue s.en.stop s.now = true ∧ i = .stopTimerExpiry) ∨ (timerDue s.en.hold s.now = true ∧ i = .inhibitHoldExpiry) ∨
    (∃ k, (s.agedTo k = some .held ∧ i = .slotHeld k) ∨ (s.agedTo k = some .stale ∧ i = .slotStale k)) ∨
    (∃ r ∈ s.ti.removals, r.time ≤ s.now ∧ i = .faultRemovalTime r.fault r.topic) := by
  simp only [State.dueEvents, List.mem_append, List.mem_flatMap, mem_dueIf, mem_agingDue, mem_allKinds, mem_allChans, true_and,
    decide_eq_true_eq, or_assoc]

/-- Settles O3: the queue's new commands, one rule for each. -/
theorem dueEventsFollowTheTimers : Obligations.DueEventsFollowTheTimers := by
  intro s i
  rw [State.mem_dueEvents]
  cases i with
  | slotHeld k => simp [IsDue, agedTo_iff, freshnessOfAge_held]
  | slotStale k => simp [IsDue, agedTo_iff, freshnessOfAge_stale]
  | faultRemovalTime f topic =>
    simp only [IsDue, reduceCtorEq, and_false, exists_false, or_false, false_or, Instr.faultRemovalTime.injEq]
    exact ⟨fun ⟨r, hr, ht, hf, htopic⟩ => ⟨r, hr, hf.symm, htopic.symm, ht⟩, fun ⟨r, hr, hf, htopic, ht⟩ => ⟨r, hr, ht, hf.symm, htopic.symm⟩⟩
  | loadTimeout => simp [IsDue, loadDue_iff]
  | computationComplete => simp [IsDue, completionDue_iff]
  | windingDownTimeout | cycleTimerExpiry | silentTimerExpiry | ackTimerExpiry | startTimerExpiry | stopTimerExpiry | inhibitHoldExpiry =>
    simp [IsDue, timerDue_iff]
  | echoDeadlineExpiry c => simp [IsDue, timerDue_iff]
  | powerOn | resetAsserted | resetReleased | ignReleased | ignAsserted | shutdownAsserted | shutdownReleased | attemptStart
  | contentionLoss | transmitError | completeSend => simp [IsDue]
  | loadComplete r => simp [IsDue]
  | releaseEdge a => simp [IsDue]
  | telegramReceived bits => simp [IsDue]

/-! ### The reset (R177, R180) -/

theorem powerOn_atReset (s : State) (l : Load) : AtReset { State.reset with
    pins := s.pins, su := { State.reset.su with load := l }, free := s.free, pending := s.pending } :=
  atReset_of_blocks rfl rfl rfl rfl rfl rfl rfl

/-- Settles O6: every block but the lines takes its reset values. -/
theorem powerOnAndResetStartOver : Obligations.PowerOnAndResetStartOver := by
  refine ⟨fun s => ⟨_, rfl, powerOn_atReset s _, rfl, ⟨rfl, rfl, rfl, rfl⟩, rfl, rfl, rfl, rfl, rfl, rfl, rfl, rfl, rfl⟩, fun s =>
    ⟨_, rfl, atReset_of_blocks rfl rfl rfl rfl rfl rfl rfl, rfl, ⟨rfl, rfl, rfl, rfl⟩, rfl, rfl, rfl, rfl, rfl, rfl, rfl, rfl, rfl, rfl⟩⟩

/-- Settles O7: the load begins from where RESET holds it, and from nowhere else. -/
theorem resetReleasedBeginsTheLoad : Obligations.ResetReleasedBeginsTheLoad := by
  intro s
  show execResetReleased s = _
  unfold execResetReleased
  split <;> simp_all <;> rfl

theorem completePlans_reset (P : Plan → Prop) : CompletePlans P State.reset := by
  refine ⟨fun p hp => ?_, fun p hp => ?_⟩ <;> cases hp

/-- Settles O5: the blocks at their reset values, and with them every invariant. -/
theorem resetStateIsAsStated : Obligations.ResetStateIsAsStated := by
  have hreset : AtReset State.reset := atReset_of_blocks rfl rfl rfl rfl rfl rfl rfl
  have hchan (c : Chan) : State.reset.cu.get c = .reset := PerChan.get_const _ c
  have hsettled : Settled State.reset := (settled_iff _).2 ⟨negOk_reset (Nat.zero_le 2), powersOn_restOk State.reset (.reading 0)⟩
  refine ⟨hreset, rfl, rfl, rfl, rfl, rfl, rfl, rfl, rfl, ⟨rfl, rfl, rfl, rfl⟩, rfl, cfgOk_default, ⟨List.nodup_nil, Nat.zero_le 10⟩,
    slots_reset_ok, faultsOk_reset, hsettled, ?_, ?_, ?_, ?_, ?_, ?_, ?_, ?_, ⟨rfl, fun h => by cases h⟩, ?_, ?_, ?_, ?_, ?_, ?_, ?_⟩
  · exact (everyChan_iff _).2 fun c => handshakeOk_quiet (by decide) (by rw [hchan c])
  · exact (everyChan_iff _).2 fun c => deadlineOk_quiet (by rw [hchan c])
  · exact (everyChan_iff _).2 fun c => listOk_of_nil (by rw [hchan c]; rfl)
  · exact fun a ha => by cases ha
  · decide
  · exact ⟨by decide, by decide, by decide, blendOk_inactive⟩
  · exact fun c hc => by cases hc
  · exact fun sp hsp => by cases hsp
  · exact fun c hc => by cases hc
  · exact completePlans_reset _
  · exact completePlans_reset _
  · exact (everyChan_iff _).2 fun c => iff_of_false (by rw [hchan c]; decide) (by rintro ⟨⟩)
  · exact fun h => absurd rfl h
  · exact iff_of_false (by decide) (by decide)
  · exact noSleepDue_of_part (by decide)

/-! ### The frame of every command -/

/-- Only these blocks differ, and the queue is the same. -/
def Keeps (bs : List Block) (s t : State) : Prop := t.pending = s.pending ∧ ∀ b : Block, b ∉ bs → b.Same s t

theorem Keeps.refl (bs : List Block) (s : State) : Keeps bs s s := ⟨rfl, fun b _ => by cases b <;> rfl⟩

theorem keeps_iff (bs : List Block) (s t : State) : Keeps bs s t ↔ t.pending = s.pending ∧
    (.now ∉ bs → t.now = s.now) ∧ (.pins ∉ bs → t.pins = s.pins) ∧ (.cfg ∉ bs → t.cfg = s.cfg) ∧ (.su ∉ bs → t.su = s.su) ∧
    (.bi ∉ bs → t.bi = s.bi) ∧ (.ti ∉ bs → t.ti = s.ti) ∧ (.cs ∉ bs → t.cs = s.cs) ∧ (.eb ∉ bs → t.eb = s.eb) ∧
    (.ms ∉ bs → t.ms = s.ms) ∧ (.cu ∉ bs → t.cu = s.cu) ∧ (.en ∉ bs → t.en = s.en) ∧ (.fm ∉ bs → t.fm = s.fm) ∧
    (.free ∉ bs → t.free = s.free) := by
  constructor
  · rintro ⟨hp, h⟩
    exact ⟨hp, h .now, h .pins, h .cfg, h .su, h .bi, h .ti, h .cs, h .eb, h .ms, h .cu, h .en, h .fm, h .free⟩
  · rintro ⟨hp, hnow, hpins, hcfg, hsu, hbi, hti, hcs, heb, hms, hcu, hen, hfm, hfree⟩
    refine ⟨hp, fun b => ?_⟩
    cases b with
    | now => exact hnow
    | pins => exact hpins
    | cfg => exact hcfg
    | su => exact hsu
    | bi => exact hbi
    | ti => exact hti
    | cs => exact hcs
    | eb => exact heb
    | ms => exact hms
    | cu => exact hcu
    | en => exact hen
    | fm => exact hfm
    | free => exact hfree
    | pending => exact fun _ => hp

/-- A command's meaning completes and keeps to the blocks it may change. -/
def Completes (i : Instr) (s : State) (r : Result) : Prop := ∃ t, r = .next t ∧ Keeps (mayChange i) s t

section
variable {i : Instr} {s t : State}

theorem completes_of (h : Keeps (mayChange i) s t) : Completes i s (.next t) := ⟨t, rfl, h⟩

theorem completes_same : Completes i s (.next s) := completes_of (.refl _ s)

theorem State.wake_keeps : Keeps (mayChange (.telegramReceived [])) s s.wake := by
  simp [keeps_iff, mayChange, State.wake, State.resetBlocks]

theorem State.hearTelegram_keeps (f : Frame) : Keeps (mayChange (.telegramReceived [])) s (s.hearTelegram f) := by
  unfold State.hearTelegram
  split <;> simp [keeps_iff, mayChange]

theorem State.receive_keeps (bits : List Bool) : Keeps (mayChange (.telegramReceived bits)) s (s.receive bits) := by
  unfold State.receive State.watchTelegram
  (repeat' split)
  · exact .refl _ s
  · exact .refl _ s
  · exact .refl _ s
  · exact State.hearTelegram_keeps _
  · exact State.hearTelegram_keeps _
  · exact State.wake_keeps
  · exact .refl _ s

theorem State.endLoad_keeps (cfg : Cfg) (r : LoadResult) : Keeps (mayChange .loadTimeout) s (s.endLoad cfg r) := by
  unfold State.endLoad; rw [State.enterReady_eq]; simp [keeps_iff, mayChange]

theorem execLoadComplete_completes (r : ImageRead) : Completes (.loadComplete r) s (execLoadComplete r s) := by
  unfold execLoadComplete
  (repeat' split)
  · exact completes_of (s.endLoad_keeps _ _)
  · exact completes_of (s.endLoad_keeps _ _)
  · exact completes_of (s.endLoad_keeps _ _)
  all_goals exact completes_same

theorem execLoadTimeout_completes : Completes .loadTimeout s (execLoadTimeout s) := by
  unfold execLoadTimeout
  (repeat' split)
  · exact completes_of (s.endLoad_keeps _ _)
  all_goals exact completes_same

theorem execReleaseEdge_completes (a : Bool) : Completes (.releaseEdge a) s (execReleaseEdge a s) := by
  have moved (c : Sched) : Keeps (mayChange (.releaseEdge a)) s ((s.withPins { s.pins with release := a }).withCs c) := by
    simp [keeps_iff, mayChange]
  have level : Keeps (mayChange (.releaseEdge a)) s ((s.withPins { s.pins with release := a }).releaseLevel a) := by
    unfold State.releaseLevel
    (repeat' split)
    · exact moved s.cs
    · simp [keeps_iff, mayChange]
    · exact moved _
  unfold execReleaseEdge
  split
  · exact completes_of level
  · exact completes_of level
  all_goals exact completes_of (moved s.cs)

/-- Every command's meaning, with the frame of each branch by the frames of the operations it takes. -/
theorem exec_completes (i : Instr) (s : State) : Completes i s (exec i s) := by
  cases i with
  | powerOn => exact completes_of (by simp [keeps_iff, mayChange])
  | resetAsserted => exact completes_of (by simp [keeps_iff, mayChange, State.resetBlocks])
  | resetReleased =>
    show Completes _ s (execResetReleased s)
    unfold execResetReleased
    split <;> exact completes_of (by simp [keeps_iff, mayChange])
  | loadComplete r => exact execLoadComplete_completes r
  | loadTimeout => exact execLoadTimeout_completes
  | ignReleased =>
    show Completes _ s (execIgnReleased s)
    unfold execIgnReleased
    split <;> exact completes_of (by simp [keeps_iff, mayChange])
  | ignAsserted =>
    show Completes _ s (execIgnAsserted s)
    unfold execIgnAsserted
    split <;> exact completes_of (by simp [keeps_iff, mayChange, State.wake, State.resetBlocks])
  | windingDownTimeout =>
    show Completes _ s (execWindingDownTimeout s)
    unfold execWindingDownTimeout
    split <;> exact completes_of (by simp [keeps_iff, mayChange])
  | shutdownAsserted =>
    show Completes _ s (execShutdownAsserted s)
    unfold execShutdownAsserted
    split <;> exact completes_of (by simp [keeps_iff, mayChange])
  | shutdownReleased =>
    show Completes _ s (execShutdownReleased s)
    unfold execShutdownReleased
    split <;> exact completes_of (by simp [keeps_iff, mayChange])
  | releaseEdge a => exact execReleaseEdge_completes a
  | telegramReceived bits => exact completes_of (State.receive_keeps bits)
  | cycleTimerExpiry =>
    show Completes _ s (execCycleTimerExpiry s)
    unfold execCycleTimerExpiry
    split <;> exact completes_of (by simp [keeps_iff, mayChange])
  | computationComplete =>
    show Completes _ s (execComputationComplete s)
    unfold execComputationComplete
    split <;> exact completes_of (by simp [keeps_iff, mayChange])
  | attemptStart =>
    show Completes _ s (execAttemptStart s)
    unfold execAttemptStart
    (repeat' split) <;> exact completes_of (by simp [keeps_iff, mayChange])
  | contentionLoss =>
    show Completes _ s (execContentionLoss s)
    unfold execContentionLoss
    split <;> exact completes_of (by simp [keeps_iff, mayChange])
  | transmitError =>
    show Completes _ s (execTransmitError s)
    unfold execTransmitError
    split <;> exact completes_of (by simp [keeps_iff, mayChange])
  | silentTimerExpiry =>
    show Completes _ s (execSilentTimerExpiry s)
    unfold execSilentTimerExpiry
    split <;> exact completes_of (by simp [keeps_iff, mayChange])
  | completeSend =>
    show Completes _ s (execCompleteSend s)
    unfold execCompleteSend
    split <;> exact completes_of (by simp [keeps_iff, mayChange])
  | echoDeadlineExpiry c =>
    show Completes _ s (execEchoDeadlineExpiry c s)
    unfold execEchoDeadlineExpiry
    split <;> exact completes_of (by simp [keeps_iff, mayChange])
  | ackTimerExpiry =>
    show Completes _ s (execAckTimerExpiry s)
    unfold execAckTimerExpiry
    split <;> exact completes_of (by simp [keeps_iff, mayChange])
  | startTimerExpiry =>
    show Completes _ s (execStartTimerExpiry s)
    unfold execStartTimerExpiry
    split <;> exact completes_of (by simp [keeps_iff, mayChange])
  | stopTimerExpiry =>
    show Completes _ s (execStopTimerExpiry s)
    unfold execStopTimerExpiry
    split <;> exact completes_of (by simp [keeps_iff, mayChange])
  | inhibitHoldExpiry =>
    show Completes _ s (execInhibitHoldExpiry s)
    unfold execInhibitHoldExpiry
    split <;> exact completes_of (by simp [keeps_iff, mayChange])
  | slotHeld k => exact completes_of (by simp [keeps_iff, mayChange])
  | slotStale k => exact completes_of (by simp [keeps_iff, mayChange])
  | faultRemovalTime f topic =>
    show Completes _ s (execFaultRemovalTime f topic s)
    unfold execFaultRemovalTime
    split <;> exact completes_of (by simp [keeps_iff, mayChange])

end

/-- Settles O4: the meaning of each command, and the frame of its operations. -/
theorem commandsCompleteAndKeepTheRest : Obligations.CommandsCompleteAndKeepTheRest := exec_completes

end Sys2Proof.Machine
end

section
/-! PROOFS. The line SHUTDOWN, the wake and the clash on the bus, attempts, the report of an ENG send, and the timed commands of the Negotiator and of Topic Intake. -/

namespace Sys2Proof.Machine

/-! ### Telegrams that change no slot (R157 to R159, R163, R165) -/

section
variable {s : State} {bits : List Bool} {f : Frame}

theorem exec_telegramReceived (bits : List Bool) (s : State) : exec (.telegramReceived bits) s = .next (s.receive bits) := rfl

theorem State.receive_of_bad (h : receiveFrame bits = none) : s.receive bits = s := by unfold State.receive; rw [h]

theorem State.receive_of_loading (h : s.su.part = .loading) : s.receive bits = s := by
  unfold State.receive
  split
  · rfl
  · rw [h]; split <;> rfl

theorem wakeEntry_iff (s : State) (f : Frame) : s.ti.table.any (fun e => e.wake && e.topic == f.topic) = true ↔
    ∃ e ∈ s.ti.table, e.wake = true ∧ e.topic = f.topic := by simp

theorem State.watchTelegram_of_wake (h : ∃ e ∈ s.ti.table, e.wake = true ∧ e.topic = f.topic) : s.watchTelegram f = s.wake :=
  if_pos ((wakeEntry_iff s f).2 h)

theorem State.watchTelegram_of_other (h : ¬ ∃ e ∈ s.ti.table, e.wake = true ∧ e.topic = f.topic) : s.watchTelegram f = s :=
  if_neg fun hany => h ((wakeEntry_iff s f).1 hany)

end

/-- Settles O11: what a good telegram does in SLEEP is the watch for the wake topic. -/
theorem wakeTopicWakes : Obligations.WakeTopicWakes := by
  intro s bits hs hn
  refine ⟨fun f hf hwake => ⟨s.wake, ?_, s.wake_woken⟩, fun hother => ?_⟩
  · rw [exec_telegramReceived, (State.receive_good hf hn).2 hs, State.watchTelegram_of_wake hwake]
  · cases hf : receiveFrame bits with
    | none => rw [exec_telegramReceived, State.receive_of_bad hf]
    | some f => rw [exec_telegramReceived, (State.receive_good hf hn).2 hs, State.watchTelegram_of_other (hother f hf)]

/-- Settles O17: each telegram that is not heard, and the clash that is. -/
theorem badAndClashingTelegrams : Obligations.BadAndClashingTelegrams := by
  refine ⟨fun s bits h => ?_, fun s bits f hw hn hf hsrc => ?_⟩
  · rw [exec_telegramReceived]
    rcases h with hbad | hloading | ⟨a, ha, rfl⟩
    · rw [State.receive_of_bad hbad]
    · rw [State.receive_of_loading hloading]
    · rw [State.receive_own ha]
  · have hclash : s.receive bits = s.raise .stationClash := by
      rw [(State.receive_good hf hn).1 hw, State.hearTelegram, if_pos hsrc]
    exact ⟨s.raise .stationClash, congrArg Host.Outcome.next hclash, rfl,
      (FaultMon.mem_degrading_raise ..).2 (.inr ⟨rfl, rfl⟩), s.faultLine_raise .stationClash rfl⟩

/-! ### The line SHUTDOWN (R128 to R130) -/

theorem execShutdownAsserted_of_atWork {s : State} (h : AtWork s) :
    execShutdownAsserted s = .next (s.withPins { s.pins with shutdown := true }).takeShut.buildShut := by
  rcases h with h | h <;> simp only [execShutdownAsserted, h]

theorem execShutdownReleased_of_configured {s : State} (h : s.su.part ≠ .loading) :
    execShutdownReleased s = .next (s.withPins { s.pins with shutdown := false }).takeShut := by
  cases hp : s.su.part with
  | loading => exact absurd hp h
  | ready | windingDown | sleep => simp only [execShutdownReleased, hp]

/-- R128: a round of shut builds changes the queue alone. -/
theorem State.buildShut_eq (s : State) : s.buildShut = s.withBi { s.bi with queue := s.buildShut.bi.queue } := by
  simp only [State.buildShut, allChans, List.foldl_cons, List.foldl_nil]
  (repeat' split) <;> rfl

/-- R128: what a round of shut builds leaves waiting. -/
theorem State.buildShut_get (s : State) (c : Chan) : s.buildShut.bi.queue.get c =
    if s.cfg.shutEnable.get c = true then some (s.builtFrom c 0) else s.bi.queue.get c := by
  have hcfg : ∀ (t : State) (d : Chan) (x : Int), (t.build d x).cfg = t.cfg := fun _ _ _ => rfl
  simp only [State.buildShut, allChans, List.foldl_cons, List.foldl_nil]
  split <;> split <;> split <;> split <;> simp only [hcfg] at * <;> cases c <;> simp [State.build_get, State.builtFrom_build, *]

theorem State.builtFrom_zero (s : State) (c : Chan) : s.builtFrom c 0 =
    ⟨0, decide ((s.cu.get c).hs = .recovery ∨ (s.cu.get c).hs = .lost), if c = .eng then s.request else .none⟩ := by
  simp [State.builtFrom]

/-- Settles O14: the flags follow the line, and the shut channels then build from them. -/
theorem shutdownAssertedQueuesZero : Obligations.ShutdownAssertedQueuesZero := by
  intro s hw hshut
  have hflags (c : Chan) : (s.withPins { s.pins with shutdown := true }).takeShut.cu.get c =
      shutFlag (s.cfg.shutEnable.get c) true (s.cu.get c) := State.takeShut_get _ c
  refine ⟨_, execShutdownAsserted_of_atWork hw, by simp, fun c => ?_, fun c => ?_, ?_⟩
  · have hbefore : (s.cu.get c).shut = (s.cfg.shutEnable.get c && s.pins.shutdown) :=
      (everyChan_iff _).1 (hshut (by rcases hw with h | h <;> simp [h])) c
    simp only [State.buildShut_frame, hflags]
    cases hen : s.cfg.shutEnable.get c with
    | false =>
      have hclear : (s.cu.get c).shut = false := by rw [hbefore, hen, Bool.false_and]
      simp [shutFlag, ← hclear]
    | true => simp [shutFlag]
  · rw [State.buildShut_get, State.builtFrom_zero, hflags]; rfl
  · rw [State.buildShut_eq]; rfl

/-- Settles O15: with the line released the flags clear; in SLEEP they follow the line. -/
theorem shutdownReleasedBuildsNothing : Obligations.ShutdownReleasedBuildsNothing := by
  refine ⟨fun s hs => ⟨_, execShutdownReleased_of_configured hs, fun c => ?_, rfl⟩, fun s hs => ⟨?_, ?_⟩,
    fun s hs => ⟨(s.withPins { s.pins with shutdown := true }).takeShut, ?_, fun c => ?_, rfl⟩⟩
  · rw [State.takeShut_get]; simp [shutFlag]
  · show execShutdownReleased s = _
    simp only [execShutdownReleased, hs]; rfl
  · show execShutdownAsserted s = _
    simp only [execShutdownAsserted, hs]; rfl
  · show execShutdownAsserted s = _
    simp only [execShutdownAsserted, hs]
  · rw [State.takeShut_get]; simp [shutFlag]

/-! ### Attempts (R153, R154, R161, R162) -/

theorem Bus.status_waits {b : Bus} {st : StatusTelegram} (h : Outgoing.status st ∈ b.waiting) : b.statusQ = some st := by
  rcases List.mem_append.1 h with h | h
  · obtain ⟨d, -, hd⟩ := List.mem_filterMap.1 h
    obtain ⟨x, -, hxe⟩ := Option.map_eq_some_iff.1 hd
    cases hxe
  · obtain ⟨x, hx, hxe⟩ := Option.map_eq_some_iff.1 (Option.mem_toList.1 h)
    cases hxe; exact hx

/-- R153: an attempt begins only in READY and WINDING_DOWN, on an ACTIVE link, with the transmitter empty and a telegram waiting. -/
theorem execAttemptStart_cases (s : State) : execAttemptStart s = .next s ∨ ∃ x, s.working = true ∧ s.bi.link = .active ∧ s.bi.tx = none ∧
    s.bi.choose s.cfg = some x ∧ execAttemptStart s = .next (s.beginAttempt x) := by
  unfold execAttemptStart
  split
  · next h =>
    obtain ⟨hw, hl, hx⟩ := h
    split
    · next x hc => exact .inr ⟨x, hw, hl, hx, hc, rfl⟩
    · exact .inl rfl
  · exact .inl rfl

theorem State.beginAttempt_setpoint (s : State) (c : Chan) (sp : Setpoint) : s.beginAttempt (.setpoint c sp) = { s with bi := { s.bi with
    tx := some ((Outgoing.setpoint c sp).attempt s.cfg (s.bi.seqs.get c)), queue := s.bi.queue.set c none } } := rfl

theorem State.beginAttempt_status (s : State) (st : StatusTelegram) : s.beginAttempt (.status st) = { s with bi := { s.bi with
    tx := some ((Outgoing.status st).attempt s.cfg s.bi.statusSeq), statusQ := none } } := rfl

/-- Settles O30: an attempt that begins is with the telegram chosen among those that wait; each of the five obstacles lets none begin. -/
theorem attemptWritesSequenceAndCheck : Obligations.AttemptWritesSequenceAndCheck := by
  refine ⟨fun s t a hexec htx ha => ?_, fun s hno => ?_⟩
  · rcases execAttemptStart_cases s with h | ⟨x, -, -, -, hx, h⟩
    · cases h.symm.trans hexec
      cases htx.symm.trans ha
    · cases h.symm.trans hexec
      cases ha
      have hmem : x ∈ s.bi.waiting := Bus.choose_mem hx
      refine ⟨rfl, rfl, fun c sp hsp => ?_, fun st hst => ?_⟩
      · cases (hsp : x = _)
        exact ⟨Bus.setpoint_waits hmem, State.beginAttempt_setpoint s c sp⟩
      · cases (hst : x = _)
        exact ⟨Bus.status_waits hmem, State.beginAttempt_status s st⟩
  · rcases execAttemptStart_cases s with h | ⟨x, hw, hl, htx, hx, -⟩
    · exact h
    · rw [State.working_iff] at hw
      have hmem : x ∈ s.bi.waiting := Bus.choose_mem hx
      exfalso
      rcases hno with hnil | hsilent | hunder | hloading | hsleep
      · rw [hnil] at hmem; cases hmem
      · cases hl.symm.trans hsilent
      · rw [htx] at hunder; cases hunder
      · rcases hw with h | h <;> cases h.symm.trans hloading
      · rcases hw with h | h <;> cases h.symm.trans hsleep

/-- Settles O31: the telegram's return, the transmitter empty. -/
theorem contentionLossReturnsTheTelegram : Obligations.ContentionLossReturnsTheTelegram := by
  intro s a ha
  have hexec : exec .contentionLoss s = .next ((s.withBi { s.bi with tx := none }).returnTelegram a.telegram) := by
    show execContentionLoss s = _
    simp only [execContentionLoss, ha]
  refine ⟨fun c sp hc _ => ?_, fun st hst => ?_⟩
  · rw [hexec, hc, State.returnTelegram_setpoint]; rfl
  · rw [hexec, hst, State.returnTelegram_status]; rfl

/-! ### The report of an ENG send to the Negotiator (R140) -/

section
variable {s : State}

theorem State.endWithdrawal_of_cranking (h : s.en.observed = some .cranking) : s.endWithdrawal =
    s.withEn { s.en with state := .cranking, withdrawals := 0, start := some (s.now + s.cfg.startTimeout) } := by
  simp only [State.endWithdrawal, h]; rfl

theorem State.endWithdrawal_of_running (h : s.en.observed = some .running) : s.endWithdrawal =
    ((s.withEn { s.en with state := .running, withdrawals := 0, failed := 0 }).remove .startFailed).remove .engineStall := by
  simp only [State.endWithdrawal, h]; rfl

theorem State.endWithdrawal_of_neither (hc : s.en.observed ≠ some .cranking) (hr : s.en.observed ≠ some .running) :
    s.endWithdrawal = s.withEn { s.en with state := .stopped, withdrawals := 0 } := by
  unfold State.endWithdrawal
  split
  · next h => exact absurd h hc
  · next h => exact absurd h hr
  all_goals rfl

theorem State.engSent_of_other {r : Request} (h : r ≠ .none) : s.engSent r = s := if_neg fun hw => h hw.2

theorem State.engSent_of_first (hs : s.en.state = .withdrawing) (hw : s.en.withdrawals = 0) :
    s.engSent .none = s.withEn { s.en with withdrawals := 1 } := by
  unfold State.engSent
  rw [if_pos ⟨hs, rfl⟩, if_neg (by rw [hw]; decide), hw]

theorem State.engSent_of_second (hs : s.en.state = .withdrawing) (hw : s.en.withdrawals = 1) : s.engSent .none = s.endWithdrawal := by
  unfold State.engSent
  rw [if_pos ⟨hs, rfl⟩, if_pos (by rw [hw])]

theorem FaultMon.running_unlisted (m : FaultMon) : ((m.remove .startFailed).remove .engineStall).listed .startFailed = false ∧
    ((m.remove .startFailed).remove .engineStall).listed .engineStall = false :=
  ⟨(FaultMon.listed_remove_of_ne _ (by decide)).trans (FaultMon.listed_remove_self _ _), FaultMon.listed_remove_self _ _⟩

end

/-- Settles O34: the channel's report leaves the Negotiator as it was, and the report to the Negotiator then goes by the count. -/
theorem secondNoneSendEndsWithdrawal : Obligations.SecondNoneSendEndsWithdrawal := by
  intro s a sp ha hsp hw
  obtain ⟨v, hv⟩ : ∃ v, v = (s.sendDone a).channelSent .eng a.seq sp.value := ⟨_, rfl⟩
  have hen : v.en = s.en := by simp [hv]
  have hnow : v.now = s.now := by simp [hv]
  have hcfg : v.cfg = s.cfg := by simp [hv]
  have hu : (s.sendDone a).reportSend a = (v.engSent sp.request).syncRequest v.request := by
    rw [State.reportSend_setpoint hsp, if_pos rfl, hv]
  refine ⟨_, _, execCompleteSend_of_attempt ha, State.checkSleep_settles _, ?_⟩
  simp only [hu, State.syncRequest_frame, ← hen, ← hnow, ← hcfg] at hw ⊢
  refine ⟨fun hr => ?_, fun hr hz => ?_, fun hr h1 => ?_⟩
  · rw [State.engSent_of_other hr]
  · rw [hr, State.engSent_of_first hw hz]; rfl
  · rw [hr, State.engSent_of_second hw h1]
    refine ⟨fun ho => ?_, fun ho => ?_, fun hc ho => ?_⟩
    · rw [State.endWithdrawal_of_cranking ho]; rfl
    · rw [State.endWithdrawal_of_running ho]
      exact ⟨rfl, FaultMon.running_unlisted _⟩
    · rw [State.endWithdrawal_of_neither hc ho]; rfl

/-! ### The stop timer and the inhibit hold (R144, R146) -/

/-- Settles O37: each expiry in the state that runs its timer. -/
theorem stopTimerAndInhibitHold : Obligations.StopTimerAndInhibitHold := by
  intro s d hd
  refine ⟨fun hs ht => ?_, fun hs ht => ?_⟩
  · exact if_pos ⟨hs, (timerDue_iff _ _).2 ⟨d, ht, hd⟩⟩
  · have hexec : exec .inhibitHoldExpiry s = .next ((s.stopHold.enterStopped).remove .engineInhibited).checkSleep :=
      if_pos ⟨hs, (timerDue_iff _ _).2 ⟨d, ht, hd⟩⟩
    exact ⟨_, _, hexec, State.checkSleep_settles _, rfl, FaultMon.listed_remove_self _ _, FaultMon.remove_list _ _, FaultMon.remove_degrading _ _⟩

/-! ### Aging (R105, R107, R110, R137) -/

theorem Slot.stamp_setState {α : Type} (x : Slot α) (f : Freshness) : (x.setState f).stamp = x.stamp.map (fun y => (y.1, f)) := by
  cases x <;> rfl

theorem Slots.stamp_setState_self {sl : Slots} {k : Kind} {b : Nat} {st : Freshness} (h : sl.stamp k = some (b, st)) (f : Freshness) :
    (sl.setState k f).stamp k = some (b, f) := by
  have hmap : (sl.setState k f).stamp k = (sl.stamp k).map (fun y => (y.1, f)) := by cases k <;> exact Slot.stamp_setState _ f
  rw [hmap, h]; rfl

theorem Slots.stamp_setState_of_ne (sl : Slots) {k k' : Kind} (h : k' ≠ k) (f : Freshness) : (sl.setState k f).stamp k' = sl.stamp k' := by
  revert h
  cases k <;> cases k' <;> simp [Slots.stamp, Slots.setState]

section
variable {s : State} {k : Kind}

theorem State.becomeHeld_of_aged {b : Nat} (hstamp : s.ti.slots.stamp k = some (b, .fresh)) (h : s.agedTo k = some .held) :
    s.becomeHeld k = s.withTi { s.ti with slots := s.ti.slots.setState k .held } := by
  simp only [State.becomeHeld, hstamp, h]

theorem State.becomeStale_of_other (h : s.agedTo k = some .stale) (hk : k ≠ .engine) :
    s.becomeStale k = (s.withTi { s.ti with slots := s.ti.slots.setState k .stale }).raise (.stale k) := by
  simp only [State.becomeStale, h, if_neg hk]

/-- R107, R110, R137: the part that the STALE ENGINE slot leaves, before any sleep. -/
def State.engineGone (s : State) : State :=
  ((s.withTi { s.ti with slots := s.ti.slots.setState .engine .stale, inhibit := .clear }).aroundFault
    (fun m => m.raise (.stale .engine) s.now) State.engineStale).syncRequest s.request

theorem State.becomeStale_of_engine (h : s.agedTo .engine = some .stale) : s.becomeStale .engine = s.engineGone.checkSleep := by
  simp only [State.becomeStale, h, if_true]; rfl

theorem State.engineStale_fm (s : State) :
    s.engineStale.fm = if s.en.state = .inhibited then s.fm.remove .engineInhibited else s.fm := by
  unfold State.engineStale
  cases hs : s.en.state <;> rfl

theorem State.engineGone_frame (s : State) : s.engineGone.su = s.su ∧
    s.engineGone.ti = { s.ti with slots := s.ti.slots.setState .engine .stale, inhibit := .clear } ∧
    s.engineGone.en = if s.en.state = .lockedOut then { s.en with observed := none } else { Neg.reset with failed := s.en.failed } := by
  refine ⟨by simp [State.engineGone], by simp [State.engineGone], ?_⟩
  simp only [State.engineGone, State.syncRequest_frame, State.aroundFault_frame, State.engineStale_en]
  rfl

/-- R168: STALE is raised before the Negotiator's change or after it. -/
theorem State.engineGone_fm (s : State) : EitherOrder (fun m => m.raise (.stale .engine) s.now)
    (fun m => if s.en.state = .inhibited then m.remove .engineInhibited else m) s.fm s.engineGone.fm := by
  unfold State.engineGone
  simp only [State.syncRequest_frame]
  rcases State.aroundFault_fm (s.withTi { s.ti with slots := s.ti.slots.setState .engine .stale, inhibit := .clear })
    (fun m => m.raise (.stale .engine) s.now) State.engineStale with h | h <;> rw [h, State.engineStale_fm]
  · exact .inl rfl
  · exact .inr rfl

theorem State.engineGone_fm_of_inhibited (h : s.en.state = .inhibited) : EitherOrder (fun m => m.raise (.stale .engine) s.now)
    (fun m => m.remove .engineInhibited) s.fm s.engineGone.fm := by simpa only [if_pos h] using s.engineGone_fm

theorem State.engineGone_fm_of_other (h : s.en.state ≠ .inhibited) : s.engineGone.fm = s.fm.raise (.stale .engine) s.now := by
  simpa only [if_neg h, EitherOrder, or_self] using s.engineGone_fm

theorem State.engineGone_unlists (h : s.en.state = .inhibited) : s.engineGone.fm.listed .engineInhibited = false := by
  rcases State.engineGone_fm_of_inhibited h with hfm | hfm <;> rw [hfm]
  · exact FaultMon.listed_remove_self _ _
  · exact (FaultMon.listed_raise_of_ne _ _ (by decide)).trans (FaultMon.listed_remove_self _ _)

theorem State.engineGone_faultLine (s : State) (hd : (FaultId.stale .engine).isDegrading = true) : s.engineGone.faultLine = true := by
  refine State.faultLine_of_mem (f := .stale .engine) ?_
  by_cases h : s.en.state = .inhibited
  · rcases State.engineGone_fm_of_inhibited h with hfm | hfm <;> rw [hfm]
    · exact (FaultMon.mem_degrading_remove ..).2 ⟨(FaultMon.mem_degrading_raise ..).2 (.inr ⟨rfl, hd⟩), by decide⟩
    · exact (FaultMon.mem_degrading_raise ..).2 (.inr ⟨rfl, hd⟩)
  · rw [State.engineGone_fm_of_other h]
    exact (FaultMon.mem_degrading_raise ..).2 (.inr ⟨rfl, hd⟩)

end

/-- Settles O38: the age decides by `agedTo_iff`; for ENGINE the Negotiator is told as well. -/
theorem slotsAgeToHeldAndStale : Obligations.SlotsAgeToHeldAndStale := by
  intro s k b st l hstamp hkind
  refine ⟨fun hst hfresh hhold => ?_, fun hst hfresh hhold => ?_⟩
  · subst hst
    have haged : s.agedTo k = some .held :=
      (agedTo_iff s k .held).2 ⟨b, _, l, hstamp, hkind, by decide, freshnessOfAge_held.2 ⟨hfresh, hhold⟩⟩
    exact ⟨_, congrArg Host.Outcome.next (State.becomeHeld_of_aged hstamp haged), rfl, Slots.stamp_setState_self hstamp _,
      fun k' hk' => Slots.stamp_setState_of_ne _ hk' _⟩
  · have haged : s.agedTo k = some .stale :=
      (agedTo_iff s k .stale).2 ⟨b, st, l, hstamp, hkind, hst, freshnessOfAge_stale.2 ⟨hfresh, hhold⟩⟩
    by_cases hk : k = .engine
    · subst hk
      obtain ⟨hsu, hti, hen⟩ := s.engineGone_frame
      refine ⟨_, s.engineGone, congrArg Host.Outcome.next (State.becomeStale_of_engine haged), ?_⟩
      rw [hti, hsu, hen]
      exact ⟨rfl, Slots.stamp_setState_self hstamp _, fun k' hk' => Slots.stamp_setState_of_ne _ hk' _, rfl, rfl, s.engineGone_faultLine,
        fun h => absurd rfl h, fun _ => ⟨State.checkSleep_settles _, rfl, rfl, fun h => if_neg h, fun h => if_pos h,
          fun h => ⟨State.engineGone_unlists h, State.engineGone_fm_of_inhibited h⟩, State.engineGone_fm_of_other⟩⟩
    · refine ⟨_, (s.withTi { s.ti with slots := s.ti.slots.setState k .stale }).raise (.stale k),
        congrArg Host.Outcome.next (State.becomeStale_of_other haged hk), rfl, Slots.stamp_setState_self hstamp _,
        fun k' hk' => Slots.stamp_setState_of_ne _ hk' _, rfl, rfl, fun hd => State.faultLine_raise _ _ hd, fun _ => ⟨rfl, rfl⟩,
        fun h => absurd h hk⟩

/-! ### Removal times (R98, R99) -/

theorem removalDue_iff (f : TimedFault) (topic now : Nat) (r : Removal) :
    removalDue f topic now r = true ↔ r.fault = f ∧ r.topic = topic ∧ r.time ≤ now := by
  simp [removalDue, and_assoc]

theorem execFaultRemovalTime_of_due {s : State} {f : TimedFault} {topic : Nat}
    (h : ∃ r ∈ s.ti.removals, r.fault = f ∧ r.topic = topic ∧ r.time ≤ s.now) : ∃ t, execFaultRemovalTime f topic s = .next t ∧
      t.fm = s.fm.remove (timedFaultId f topic) ∧
      (∀ r, r ∈ t.ti.removals ↔ r ∈ s.ti.removals ∧ ¬ (r.fault = f ∧ r.topic = topic ∧ r.time ≤ s.now)) ∧
      t = { s with ti := { s.ti with removals := t.ti.removals }, fm := t.fm } := by
  obtain ⟨r, hr, hdue⟩ := h
  have hany : s.ti.removals.any (removalDue f topic s.now) = true := List.any_eq_true.2 ⟨r, hr, (removalDue_iff ..).2 hdue⟩
  refine ⟨_, if_pos hany, rfl, fun x => ?_, rfl⟩
  refine List.mem_filter.trans (and_congr_right fun _ => ?_)
  rw [Bool.not_eq_true', ← Bool.not_eq_true, removalDue_iff]

theorem execFaultRemovalTime_of_not_due {s : State} {f : TimedFault} {topic : Nat}
    (h : ∀ r ∈ s.ti.removals, ¬ (r.fault = f ∧ r.topic = topic ∧ r.time ≤ s.now)) : execFaultRemovalTime f topic s = .next s := by
  refine if_neg fun hany => ?_
  obtain ⟨r, hr, hdue⟩ := List.any_eq_true.1 hany
  exact h r hr ((removalDue_iff ..).1 hdue)

/-- Settles O39: the due removal of either fault, and the command before its time. -/
theorem faultRemovalTimeRemoves : Obligations.FaultRemovalTimeRemoves := by
  have removed (s : State) (f : TimedFault) (topic : Nat) (h : ∃ r ∈ s.ti.removals, r.fault = f ∧ r.topic = topic ∧ r.time ≤ s.now) :
      ∃ t, exec (.faultRemovalTime f topic) s = .next t ∧ t.fm.listed (timedFaultId f topic) = false ∧
        t.fm.list = s.fm.list.filter (fun e => e.id != timedFaultId f topic) ∧
        (∀ r, r ∈ t.ti.removals ↔ r ∈ s.ti.removals ∧ ¬ (r.fault = f ∧ r.topic = topic ∧ r.time ≤ s.now)) ∧
        t = { s with ti := { s.ti with removals := t.ti.removals }, fm := t.fm } := by
    obtain ⟨t, hexec, hfm, hmem, ht⟩ := execFaultRemovalTime_of_due h
    exact ⟨t, hexec, by rw [hfm]; exact FaultMon.listed_remove_self _ _, by rw [hfm]; exact FaultMon.remove_list _ _, hmem, ht⟩
  exact fun s topic => ⟨removed s .sourceMismatch topic, removed s .lengthError topic, fun f => execFaultRemovalTime_of_not_due⟩

end Sys2Proof.Machine
end

section
/-! PROOFS. An accepted telegram (spec/06): its slot, the two-look codes, and the faults that it alone touches; the hand-over at a completion. -/

namespace Sys2Proof.Machine

/-! ### The parts of an acceptance (R104) -/

/-- R104: the part once the telegram is stored and looked at and its echo word routed, before the Negotiator is told. -/
def State.echoed (s : State) (e : Consumed) (f : Frame) : State := ((s.storeTelegram e.kind f).lookTelegram e.kind f).echoTelegram e f

section
variable (s : State) (e : Consumed) (f : Frame)

theorem State.acceptTelegram_eq : s.acceptTelegram e f =
    (((s.echoed e f).handTelegram e.kind f).syncRequest s.request).demandTelegram e.kind f := rfl

@[simp] theorem State.echoed_frame : (s.echoed e f).now = s.now ∧ (s.echoed e f).cfg = s.cfg ∧ (s.echoed e f).su = s.su ∧
    (s.echoed e f).cs = s.cs ∧ (s.echoed e f).en = s.en ∧ (s.echoed e f).ti = ((s.storeTelegram e.kind f).lookTelegram e.kind f).ti := by
  simp [State.echoed]

theorem State.acceptTelegram_ti : (s.acceptTelegram e f).ti = ((s.storeTelegram e.kind f).lookTelegram e.kind f).ti := by
  simp [State.acceptTelegram_eq]

theorem State.acceptTelegram_cu : (s.acceptTelegram e f).cu = (s.echoed e f).cu := by simp [State.acceptTelegram_eq]

theorem State.acceptTelegram_en : (s.acceptTelegram e f).en = ((s.echoed e f).handTelegram e.kind f).en := by
  simp [State.acceptTelegram_eq]

/-- R104: what comes after the echo touches neither Topic Intake's faults nor a channel's. -/
theorem State.echoed_edited : (s.echoed e f).fm.Edited InnerFault (s.acceptTelegram e f).fm := by
  rw [State.acceptTelegram_eq]
  exact (State.syncRequest_edited _ (State.handTelegram_edited _ _ _)).trans (State.demandTelegram_edited _ _ _)

/-- R104: what comes after the store touches none of Topic Intake's faults. -/
theorem State.storeTelegram_accepted : (s.storeTelegram e.kind f).fm.Edited (fun g => HandshakeFault g ∨ InnerFault g) (s.acceptTelegram e f).fm := by
  have hecho := ((s.storeTelegram e.kind f).lookTelegram e.kind f).echoTelegram_edited e f
  simp only [State.lookTelegram_frame] at hecho
  exact (hecho.mono fun _ => Or.inl).trans ((s.echoed_edited e f).mono fun _ => Or.inr)

theorem State.demandTelegram_of_other {k : Kind} (h : k ≠ .demand) : s.demandTelegram k f = s := if_neg h

theorem State.handTelegram_of_other {k : Kind} (h : k ≠ .engine) : s.handTelegram k f = s := by
  cases k with
  | engine => exact absurd rfl h
  | demand | battery | mgaEcho | mgbEcho | brake | gearbox | zone | derate => rfl

theorem exec_accepted {s : State} {bits : List Bool} {f : Frame} {e : Consumed} (h : Accepted s bits f e) :
    exec (.telegramReceived bits) s = .next (s.acceptTelegram e f).checkSleep := congrArg Host.Outcome.next (State.receive_accepted h)

/-- R123: an echo word that answers no entry changes nothing. -/
theorem State.routeEcho_of_no_match {s : State} {c : Chan} {w : EchoWord} (a : Int) (h : ∀ x ∈ (s.cu.get c).list, x.seq ≠ w.seq) :
    s.routeEcho c w a = s := by
  unfold State.routeEcho; rw [(matchEcho_none _ _).2 h]

theorem State.echoed_of_no_match {s : State} {e : Consumed} {f : Frame} (h : NoEchoMatch s f e) :
    s.echoed e f = (s.storeTelegram e.kind f).lookTelegram e.kind f := by
  unfold State.echoed
  rcases ((s.storeTelegram e.kind f).lookTelegram e.kind f).echoTelegram_cases e f with hecho | ⟨c, w, a, hc, hw, hecho⟩ <;> rw [hecho]
  exact State.routeEcho_of_no_match a (by simpa using h c w a hc hw)

end

/-! ### The slot and its faults (R103, R104, R107) -/

section
variable (s : State) (k : Kind) (f : Frame)

theorem State.storeTelegram_fm : EitherOrder (fun m => m.remove (.stale k)) (windowFault k f s.now) s.fm (s.storeTelegram k f).fm :=
  State.eitherFirst_fm (s.withTi { s.ti with slots := writeSlot s.ti.slots s.now k f }) _ _

/-- R103: WINDOW_INVERTED goes with the two echoes of machines alone. -/
theorem windowFault_of_other (now : Nat) (h : ¬ (k = .mgaEcho ∨ k = .mgbEcho)) (m : FaultMon) : windowFault k f now m = m := if_neg h

theorem windowFault_of_inverted (now : Nat) (h : k = .mgaEcho ∨ k = .mgbEcho) (hi : isInverted (f.word 0) (f.word 1) = true) (m : FaultMon) :
    windowFault k f now m = m.raise (.windowInverted f.topic) now := (if_pos h).trans (if_pos hi)

theorem windowFault_of_wellFormed (now : Nat) (h : k = .mgaEcho ∨ k = .mgbEcho) (hi : isInverted (f.word 0) (f.word 1) = false) (m : FaultMon) :
    windowFault k f now m = m.remove (.windowInverted f.topic) := (if_pos h).trans (if_neg (by rw [hi]; decide))

theorem State.storeTelegram_fm_of_other (h : ¬ (k = .mgaEcho ∨ k = .mgbEcho)) : (s.storeTelegram k f).fm = s.fm.remove (.stale k) := by
  simpa only [EitherOrder, windowFault_of_other k f s.now h, or_self] using s.storeTelegram_fm k f

theorem State.storeTelegram_unstale : (s.storeTelegram k f).fm.listed (.stale k) = false ∧ .stale k ∉ (s.storeTelegram k f).fm.degrading := by
  have hother (m : FaultMon) := (windowFault_edited k f s.now m).keeps (f := .stale k) (by simp)
  rcases s.storeTelegram_fm k f with h | h <;> rw [h]
  · exact ⟨(hother _).1.trans (FaultMon.listed_remove_self _ _), fun hm => ((FaultMon.mem_degrading_remove ..).1 ((hother _).2.1 hm)).2 rfl⟩
  · exact ⟨FaultMon.listed_remove_self _ _, fun hm => ((FaultMon.mem_degrading_remove ..).1 hm).2 rfl⟩

theorem State.storeTelegram_uninverted (h : k = .mgaEcho ∨ k = .mgbEcho) (hi : isInverted (f.word 0) (f.word 1) = false) :
    (s.storeTelegram k f).fm.listed (.windowInverted f.topic) = false := by
  rcases s.storeTelegram_fm k f with hfm | hfm <;> rw [hfm, windowFault_of_wellFormed k f s.now h hi]
  · exact FaultMon.listed_remove_self _ _
  · exact (FaultMon.listed_remove_of_ne _ (by simp)).trans (FaultMon.listed_remove_self _ _)

theorem FaultMon.listed_raise_self {m : FaultMon} {g : FaultId} (now : Nat) (h : m.listed g = true ∨ m.list.length < 16) :
    (m.raise g now).listed g = true := by
  rcases m.raise_cases g now with ⟨hl, hlist, -⟩ | ⟨-, -, hlist, -⟩ | ⟨hl, hfull, -, -⟩
  · obtain ⟨x, hx, hg⟩ := List.any_eq_true.1 hl
    refine List.any_eq_true.2 ⟨x.again, ?_, hg⟩
    rw [hlist]
    exact List.mem_map.2 ⟨x, hx, if_pos (by simpa using hg)⟩
  · simp [FaultMon.listed, hlist]
  · rcases h with h | h
    · rw [hl] at h; cases h
    · omega

theorem State.storeTelegram_inverted (h : k = .mgaEcho ∨ k = .mgbEcho) (hi : isInverted (f.word 0) (f.word 1) = true)
    (hroom : s.fm.listed (.windowInverted f.topic) = true ∨ s.fm.list.length < 16) :
    (s.storeTelegram k f).fm.listed (.windowInverted f.topic) = true := by
  rcases s.storeTelegram_fm k f with hfm | hfm <;> rw [hfm, windowFault_of_inverted k f s.now h hi]
  · refine FaultMon.listed_raise_self _ (hroom.imp (fun hl => ?_) fun hlt => ?_)
    · rw [FaultMon.listed_remove_of_ne _ (by simp)]; exact hl
    · rw [FaultMon.remove_list]; exact (List.length_filter_le ..).trans_lt hlt
  · rw [FaultMon.listed_remove_of_ne _ (by simp)]
    exact FaultMon.listed_raise_self _ hroom

theorem writeSlot_stamp_self (sl : Slots) (now : Nat) : (writeSlot sl now k f).stamp k = some (now, .fresh) := by cases k <;> rfl

theorem writeSlot_stamp_of_ne (sl : Slots) (now : Nat) {k' : Kind} (h : k' ≠ k) : (writeSlot sl now k f).stamp k' = sl.stamp k' := by
  revert h
  cases k <;> cases k' <;> simp [Slots.stamp, writeSlot]

theorem machineFields_of_inverted (limit : Int) (h : isInverted (f.word 0) (f.word 1) = true) :
    (machineFields limit f).wmin = some 0 ∧ (machineFields limit f).wmax = some 0 := by
  unfold machineFields; rw [if_pos h]; exact ⟨rfl, rfl⟩

end

theorem State.lookTelegram_removals (s : State) (k : Kind) (f : Frame) : (s.lookTelegram k f).ti.removals = s.ti.removals := by
  unfold State.lookTelegram; split <;> rfl

/-- Settles O19: the store fills the slot and brings the two faults of Topic Intake up to date, and nothing after it touches them. -/
theorem acceptedTelegramFillsItsSlot : Obligations.AcceptedTelegramFillsItsSlot := by
  intro s bits f e h
  have hslots := s.acceptTelegram_slots e f
  have hafter (g : FaultId) (hg : ¬ (HandshakeFault g ∨ InnerFault g)) := (s.storeTelegram_accepted e f).keeps hg
  obtain ⟨hstale, hstale'⟩ := hafter (.stale e.kind) (by simp [HandshakeFault, InnerFault, FaultId.isInner])
  obtain ⟨hinverted, -⟩ := hafter (.windowInverted f.topic) (by simp [HandshakeFault, InnerFault, FaultId.isInner])
  obtain ⟨hunlisted, hundegraded⟩ := s.storeTelegram_unstale e.kind f
  refine ⟨_, _, exec_accepted h, State.checkSleep_settles _, hslots, ?_, fun k hk => ?_, fun hok => ?_, hstale.trans hunlisted,
    fun hm => hundegraded (hstale'.1 hm), fun hk hi => hinverted.trans (s.storeTelegram_uninverted e.kind f hk hi),
    fun hk hi => ⟨fun ha => ?_, fun hb => ?_, fun hroom => hinverted.trans (s.storeTelegram_inverted e.kind f hk hi hroom), fun hno => ?_⟩,
    by simp, ?_, s.acceptTelegram_table e f⟩
  · rw [hslots]; exact writeSlot_stamp_self ..
  · rw [hslots]; exact writeSlot_stamp_of_ne _ _ _ _ hk
  · rw [hslots]; exact writeSlot_ok hok ..
  · rw [hslots, ha]; exact ⟨_, rfl, machineFields_of_inverted f 250 hi⟩
  · rw [hslots, hb]; exact ⟨_, rfl, machineFields_of_inverted f 3000 hi⟩
  · have hne : e.kind ≠ .engine ∧ e.kind ≠ .demand := by rcases hk with hk | hk <;> simp [hk]
    have hfm : (s.acceptTelegram e f).fm = (s.storeTelegram e.kind f).fm := by
      rw [State.acceptTelegram_eq, State.demandTelegram_of_other _ _ hne.2, State.handTelegram_of_other _ _ hne.1,
        State.echoed_of_no_match hno]
      simp
    have hstore := s.storeTelegram_fm e.kind f
    simp only [EitherOrder, windowFault_of_inverted e.kind f s.now hk hi] at hstore
    rw [hfm]; exact hstore
  · rw [State.acceptTelegram_ti, State.lookTelegram_removals, State.storeTelegram_ti]

/-! ### Two-look confirmation (R109, R110) -/

theorem TwoLook.look_eq {α : Type} [DecidableEq α] (r : TwoLook α) (c : α) : r.look c =
    if r.confirmed = some c then ⟨r.confirmed, none⟩ else if r.candidate = some c then ⟨r.candidate, none⟩ else ⟨r.confirmed, some c⟩ := by
  unfold TwoLook.look
  split_ifs with h1 h2
  · rfl
  · rw [h2]
  · rfl

theorem InhibitRecord.look_eq (r : InhibitRecord) (x : EngineState) :
    r.look x = if x ≠ .inhibit then .clear else if r = .clear then .candidate else .confirmed := by
  unfold InhibitRecord.look
  by_cases hx : x = .inhibit
  · cases r <;> simp [hx]
  · simp [hx]

/-- R109, R110: the records after the look, each changed by its own kind alone. -/
theorem State.lookTelegram_records (s : State) (k : Kind) (f : Frame) :
    (s.lookTelegram k f).ti.zone = (if k ≠ .zone then s.ti.zone else s.ti.zone.look (zoneOfWord (f.word 0))) ∧
    (s.lookTelegram k f).ti.gear = (if k ≠ .gearbox then s.ti.gear else s.ti.gear.look (gearOfWord (f.word 1))) ∧
    (s.lookTelegram k f).ti.inhibit = (if k ≠ .engine then s.ti.inhibit else s.ti.inhibit.look (engineStateOf (f.word 0))) := by
  cases k <;> exact ⟨rfl, rfl, rfl⟩

section
variable (s : State) (x : EngineState)

theorem State.failedStart_observed (next : State → State) (h : ∀ u, (next u).en.observed = u.en.observed) :
    (s.failedStart next).en.observed = s.en.observed := by
  rw [State.failedStart_eq]
  split
  · rfl
  · rw [h]; rfl

theorem State.handCranking_observed : (s.handCranking x).en.observed = s.en.observed := by
  cases x with
  | off | stopping | fault => exact s.stopStart.failedStart_observed _ fun _ => rfl
  | cranking | running | inhibit => rfl

/-- R135: the state handed is the one observed. -/
theorem State.takeEngine_observed : (s.takeEngine x).en.observed = some x := by
  have hfollow (t : State) {other : State → State} (h : (other t).en.observed = t.en.observed) :
      (t.followEngine x other).en.observed = t.en.observed := by
    cases x with
    | running | cranking => rfl
    | off | stopping | fault | inhibit => exact h
  unfold State.takeEngine
  cases s.en.state with
  | unknown => exact hfollow _ rfl
  | stopped => exact hfollow _ rfl
  | startPending | stopPending => cases x <;> rfl
  | cranking => exact State.handCranking_observed _ x
  | withdrawing | running | inhibited => dsimp only; split <;> rfl
  | lockedOut => rfl

/-- R110: an INHIBIT is handed once it is confirmed; every other state at once. -/
theorem State.handTelegram_en (f : Frame) : (s.handTelegram .engine f).en =
    if engineStateOf (f.word 0) = .inhibit ∧ s.ti.inhibit ≠ .confirmed then s.en else (s.takeEngine (engineStateOf (f.word 0))).en := by
  rw [← State.handEngine_en]; exact apply_ite State.en _ _ _

end

/-- R110: the look that finds a record CLEAR leaves INHIBIT unconfirmed. -/
theorem State.echoed_inhibit {s : State} {e : Consumed} {f : Frame} (hk : e.kind = .engine) (hi : engineStateOf (f.word 0) = .inhibit) :
    (s.echoed e f).ti.inhibit = .confirmed ↔ s.ti.inhibit ≠ .clear := by
  obtain ⟨-, -, hlook⟩ := (s.storeTelegram e.kind f).lookTelegram_records e.kind f
  simp only [State.echoed_frame]
  rw [hlook, hk, hi, State.storeTelegram_ti, InhibitRecord.look_eq]
  by_cases h : s.ti.inhibit = .clear <;> simp [h]

/-- Settles O20: the look changes the records, and the hand-off what is observed. -/
theorem codesTakeTwoLooks : Obligations.CodesTakeTwoLooks := by
  intro s bits f e h
  obtain ⟨hzone, hgear, hinhibit⟩ := (s.storeTelegram e.kind f).lookTelegram_records e.kind f
  rw [State.storeTelegram_ti, TwoLook.look_eq] at hzone hgear
  rw [State.storeTelegram_ti, InhibitRecord.look_eq] at hinhibit
  refine ⟨_, _, exec_accepted h, State.checkSleep_settles _, ?_, ?_, ?_, ?_⟩
  · rw [State.acceptTelegram_ti]; exact hzone
  · rw [State.acceptTelegram_ti]; exact hgear
  · rw [State.acceptTelegram_ti]; exact hinhibit
  · rw [State.acceptTelegram_en]
    by_cases hk : e.kind = .engine
    · rw [hk, State.handTelegram_en]
      by_cases hi : engineStateOf (f.word 0) = .inhibit
      · simp only [hi, true_and, ne_eq, State.echoed_inhibit hk hi]
        by_cases hc : s.ti.inhibit = .clear <;> simp [hc, State.takeEngine_observed]
      · simp [hi, State.takeEngine_observed]
    · rw [State.handTelegram_of_other _ _ hk]; simp [hk]

/-! ### The hand-over at a completion (R45, R138, R139, R145) -/

/-- Settles O28: the release of the plan brings sleep or none, and a pending start leaves the Negotiator alone. -/
theorem handOverMovesTheNegotiator : Obligations.HandOverMovesTheNegotiator := by
  intro s c r hi hb
  obtain ⟨u, hexec, hrep⟩ := execComputationComplete_reports hi hb
  have hsource : u.cfg.releaseSource = s.cfg.releaseSource := by rw [hrep.rest]
  have hwants : u.ms.startWanted = c.sel.startWanted ∧ u.ms.stopWanted = c.sel.stopWanted := by rw [hrep.commit]; exact ⟨rfl, rfl⟩
  have hen : u.en = s.en.handedOver s.now c.sel.startWanted c.sel.stopWanted u.afterPlan.ms.handback := by
    rw [hrep.handOver, hwants.1, hwants.2]; simp
  refine ⟨_, u.en, hexec, hen, ?_⟩
  cases hr : s.cfg.releaseSource with
  | line =>
    rw [State.afterPlan_of_line (hsource.trans hr)]
    exact ⟨fun h => absurd h.1 (by decide), fun _ => by simp⟩
  | plan =>
    have hsu : u.su = s.su := by rw [hrep.rest]
    obtain ⟨-, hmark⟩ := State.releaseEvent_swaps (s := u) (p := fillPlan s.cfg c r) (by rw [hrep.back]) (by rw [hrep.back])
    have hdue : SleepDue u.releaseEvent ↔ SleepDue { s with su := s.su.afterRelease (fillPlan s.cfg c r), en := u.en } := by
      unfold SleepDue; rw [hmark, hsu, State.releaseEvent_en]
    rw [State.afterPlan_of_plan (hsource.trans hr)]
    simp only [State.takePending_frame, true_and, ← hdue]
    obtain ⟨hsleeps, hstays⟩ := u.releaseEvent.checkSleep_settles
    refine ⟨fun h => ⟨(hsleeps h).part.1, ?_⟩, fun h => ?_⟩
    · rw [(hsleeps h).negotiator, State.releaseEvent_en]
    · rw [hstays h, State.releaseEvent_en]

end Sys2Proof.Machine
end

section
/-! PROOFS. What an accepted telegram tells the channels, the Envelope Builder and the Cycle Scheduler: echoes (R31, R123 to R125) and demand arrivals (R79 to R82). -/

namespace Sys2Proof.Machine

/-! ### A matched echo (R31, R123 to R125) -/

section
variable {s : State} {c : Chan} {w : EchoWord} {a : Int} {older newer : List Sent} {x : Sent}

theorem State.routeEcho_of_match (hlist : (s.cu.get c).list = older ++ x :: newer) (hseq : x.seq = w.seq) (hold : ∀ y ∈ older, y.seq ≠ w.seq) :
    s.routeEcho c w a = ((s.answerChannel c w.status newer).handOverride c w.status a x.value).freshDeadline c := by
  unfold State.routeEcho
  rw [(matchEcho_iff w.seq (s.cu.get c).list x newer).2 ⟨older, hlist, hseq, hold⟩]

theorem Channel.answered_list (ch : Channel) (st : EchoStatus) (rest : List Sent) :
    (ch.answered st rest).list = rest ∧ (ch.answered st rest).shut = ch.shut := by
  unfold Channel.answered; split <;> exact ⟨rfl, rfl⟩

/-- R120, R124, R125: with no newer entry overdue the channel is answered and its deadline formed afresh. -/
theorem State.routeEcho_answers (hlist : (s.cu.get c).list = older ++ x :: newer) (hseq : x.seq = w.seq)
    (hold : ∀ y ∈ older, y.seq ≠ w.seq) (hdue : NotYetDue s newer) :
    (s.routeEcho c w a).cu.get c = { (s.cu.get c).answered w.status newer with deadline := newer.head?.map (fun y => y.time + s.cfg.echoTimeout) } ∧
    (s.routeEcho c w a).fm = (s.answerChannel c w.status newer).fm := by
  have hget : ((s.answerChannel c w.status newer).handOverride c w.status a x.value).cu.get c = (s.cu.get c).answered w.status newer := by
    simp only [State.handOverride_frame, State.answerChannel_get]
  have hfresh : NotYetDue ((s.answerChannel c w.status newer).handOverride c w.status a x.value)
      (((s.answerChannel c w.status newer).handOverride c w.status a x.value).cu.get c).list := by
    rw [hget, (Channel.answered_list ..).1]; simpa [NotYetDue] using hdue
  rw [State.routeEcho_of_match hlist hseq hold, State.freshDeadline_of_notYetDue _ _ hfresh]
  refine ⟨?_, ?_⟩
  · rw [State.formDeadline_get, if_pos rfl, hget, (Channel.answered_list ..).1]; simp
  · simp

/-- R124, R127: the answer ends CHANNEL_RECOVERY of a channel that recovers. -/
theorem State.answerChannel_unlists_recovery (h : (s.cu.get c).hs = .recovery) (st : EchoStatus) (rest : List Sent) :
    (s.answerChannel c st rest).fm.listed (.channelRecovery c) = false := by
  rw [State.answerChannel_fm, if_pos h]; exact FaultMon.listed_remove_self _ _

/-- R125, R127: the second APPLIED echo ends CHANNEL_LOST. -/
theorem State.answerChannel_unlists_lost (h : (s.cu.get c).hs = .lost) (hr : (s.cu.get c).readm = 1) (rest : List Sent) :
    (s.answerChannel c .applied rest).fm = s.fm.remove (.channelLost c) := by
  rw [State.answerChannel_fm, if_neg (by rw [h]; decide), if_pos ⟨h, rfl, hr.ge⟩]

/-! The answered channel by its handshake state. -/

theorem Channel.answered_of_working {ch : Channel} (h : ch.hs = .active ∨ ch.hs = .recovery) (st : EchoStatus) (rest : List Sent) :
    ch.answered st rest = { ch with list := rest, hs := .active, retry := 0 } := by
  have hne : ch.hs ≠ .lost := by rcases h with h | h <;> simp [h]
  simp [Channel.answered, hne]

theorem Channel.answered_of_lost {ch : Channel} (h : ch.hs = .lost) {st : EchoStatus} (hst : ¬ (st = .applied ∧ 1 ≤ ch.readm)) (rest : List Sent) :
    ch.answered st rest = { ch with list := rest, readm := if st = .applied then ch.readm + 1 else 0 } := if_pos ⟨h, hst⟩

theorem Channel.answered_of_readmitted {ch : Channel} (h : ch.hs = .lost) (hr : 1 ≤ ch.readm) (rest : List Sent) :
    ch.answered .applied rest = { ch with list := rest, hs := .active, retry := 0, readm := 0 } := by
  simp [Channel.answered, h, hr]

end

section
variable {s : State} {f : Frame} {e : Consumed} {c : Chan} {w : EchoWord} {a : Int} (hc : e.chan = some c)
  (hw : echoFields e.kind f = some (w, a))
include hc hw

/-- R111: the echo word goes to the channel of the kind's entry. -/
theorem State.echoed_eq : s.echoed e f = ((s.storeTelegram e.kind f).lookTelegram e.kind f).routeEcho c w a := by
  simp only [State.echoed, State.echoTelegram, hc, hw]

omit hc in
theorem echoFields_kind : e.kind ≠ .demand := fun hk => by rw [hk] at hw; cases hw

/-- R31: of what follows the echo only a start takes the overrides in, and a telegram with an echo makes none. -/
theorem State.acceptTelegram_eb : (s.acceptTelegram e f).eb = (((s.storeTelegram e.kind f).lookTelegram e.kind f).routeEcho c w a).eb := by
  rw [State.acceptTelegram_eq, State.demandTelegram_of_other _ _ (echoFields_kind hw), State.echoed_eq hc hw]; simp

end

/-- Settles O22: the channel is answered as `Channel.answered` says, and what follows the echo leaves its faults alone. -/
theorem matchedEchoAnswersTheChannel : Obligations.MatchedEchoAnswersTheChannel := by
  intro s bits f e c w a h hc hw
  obtain ⟨v, hv⟩ : ∃ v, v = (s.storeTelegram e.kind f).lookTelegram e.kind f := ⟨_, rfl⟩
  have hecho : s.echoed e f = v.routeEcho c w a := hv ▸ State.echoed_eq hc hw
  have hvcu : v.cu = s.cu := by simp [hv]
  have hveb : v.eb = s.eb := by simp [hv]
  have hcu : (s.acceptTelegram e f).cu = (v.routeEcho c w a).cu := by rw [State.acceptTelegram_cu, hecho]
  have heb : (s.acceptTelegram e f).eb = (v.routeEcho c w a).eb := hv ▸ State.acceptTelegram_eb hc hw
  refine ⟨_, _, exec_accepted h, State.checkSleep_settles _, fun c' hne => ?_, fun hno => ?_, fun older x newer hlist hseq hold hdue => ?_⟩
  · rw [hcu, State.routeEcho_get_of_ne hne, hvcu]
  · have hsame : v.routeEcho c w a = v := State.routeEcho_of_no_match a (by rw [hvcu]; exact hno)
    rw [hcu, heb, hsame, hvcu, hveb]; exact ⟨rfl, rfl⟩
  · have hdue' : NotYetDue v newer := by simpa [hv, NotYetDue] using hdue
    obtain ⟨hget, hfm⟩ := State.routeEcho_answers (s := v) (a := a) (hvcu ▸ hlist) hseq hold hdue'
    have htimeout : v.cfg.echoTimeout = s.cfg.echoTimeout := by simp [hv]
    rw [hvcu, htimeout] at hget
    have hkept (g : FaultId) (hg : g.isInner = false) := (s.echoed_edited e f).keeps (f := g) (by simp [InnerFault, hg])
    rw [hecho, hfm] at hkept
    rw [hcu, hget]
    refine ⟨(Channel.answered_list ..).1, (Channel.answered_list ..).2, rfl, fun hs => ?_, fun hs => ?_, fun hs hst => ?_,
      fun hs hst hr => ?_, fun hs hst hr => ?_⟩
    · rw [Channel.answered_of_working hs]; exact ⟨rfl, rfl, rfl⟩
    · exact (hkept (.channelRecovery c) rfl).1.trans (State.answerChannel_unlists_recovery (hvcu ▸ hs) _ _)
    · rw [Channel.answered_of_lost hs (fun happ => hst happ.1), if_neg hst]; exact ⟨hs, rfl, rfl⟩
    · rw [Channel.answered_of_lost hs (by rw [hr]; simp), if_pos hst, hr]; exact ⟨hs, rfl, rfl⟩
    · rw [hst, Channel.answered_of_readmitted hs hr.ge]
      have hlost := State.answerChannel_unlists_lost (s := v) (hvcu ▸ hs) (hvcu ▸ hr) newer
      rw [hst, hlost] at hkept
      exact ⟨rfl, rfl, rfl, fun hm => ((FaultMon.mem_degrading_remove ..).1 ((hkept (.channelLost c) rfl).2.1 hm)).2 rfl,
        (hkept (.channelLost c) rfl).1.trans (FaultMon.listed_remove_self _ _)⟩

/-- R31: an echo sets an override where it is REFUSED, or CLAMPED away from the command. -/
theorem overrideOf_eq (st : EchoStatus) (a x : Int) :
    overrideOf st a x = if st = .applied ∨ (st = .clamped ∧ a = x) then none else some ⟨st, a, x⟩ := by
  cases st with
  | applied | refused => rfl
  | clamped => simp [overrideOf]

/-- R31, R32: the pending overrides after a matched echo. -/
theorem State.handOverride_eb (s : State) (c : Chan) (st : EchoStatus) (a x : Int) : (s.handOverride c st a x).eb =
    if c = .fric ∨ st = .applied ∨ (st = .clamped ∧ a = x) then s.eb else s.eb.put c ⟨st, a, x⟩ := by
  unfold State.handOverride
  rw [overrideOf_eq]
  by_cases h : st = .applied ∨ (st = .clamped ∧ a = x)
  · simp only [if_pos h, if_pos (Or.inr h)]
  · simp only [if_neg h, or_iff_left h]
    split
    · next hc => rw [hc]; rfl
    · rfl

/-- Settles O23: the deadline formed after the override, and all that follows the echo, leave what is pending. -/
theorem matchedEchoLeavesItsOverride : Obligations.MatchedEchoLeavesItsOverride := by
  intro s bits f e c w a older newer x h hc hw hlist hseq hold
  refine ⟨_, exec_accepted h, ?_⟩
  simp only [State.checkSleep_frame]
  rw [State.acceptTelegram_eb hc hw, State.routeEcho_of_match (by simpa using hlist) hseq hold]
  simp only [State.freshDeadline_frame, State.handOverride_eb, State.answerChannel_frame, State.lookTelegram_frame, State.storeTelegram_frame]
  cases c <;> rfl

/-! ### A demand arrival (R79 to R82) -/

section
variable {s : State} {f : Frame} {e : Consumed}

theorem State.eitherFirst_id (s : State) (g : FaultMon → FaultMon) : s.eitherFirst g (fun m => m) = s.withFm (g s.fm) := if_pos rfl

theorem State.storeTelegram_of_demand (s : State) (f : Frame) : s.storeTelegram .demand f =
    (s.withTi { s.ti with slots := writeSlot s.ti.slots s.now .demand f }).withFm (s.fm.remove (.stale .demand)) := by
  have hid : windowFault .demand f s.now = fun m => m := funext (windowFault_of_other .demand f s.now (by decide))
  unfold State.storeTelegram
  rw [hid, State.eitherFirst_id]; rfl

/-- R104: a DEMAND telegram, the sequence number apart, is stored and no more. -/
theorem State.acceptTelegram_of_demand (hk : e.kind = .demand) : s.acceptTelegram e f = (s.storeTelegram .demand f).demandAccepted f.seq := by
  have hecho : s.echoed e f = s.storeTelegram .demand f := by
    unfold State.echoed
    rcases ((s.storeTelegram e.kind f).lookTelegram e.kind f).echoTelegram_cases e f with h | ⟨c, w, a, -, hw, -⟩
    · rw [h, hk]; rfl
    · exact absurd hk (echoFields_kind hw)
  have hrequest : (s.storeTelegram .demand f).request = s.request := State.request_congr (by simp) (by rw [State.storeTelegram_ti])
  rw [State.acceptTelegram_eq, State.handTelegram_of_other _ _ (by rw [hk]; decide), hecho, State.syncRequest, if_pos hrequest, hk]
  exact if_pos rfl

/-- R79, R104: the part that a DEMAND telegram leaves, before any start request. -/
def State.demanded (s : State) (f : Frame) : State :=
  (s.storeTelegram .demand f).withCs { s.cs with lastSeq := some f.seq }

theorem State.demanded_eq (s : State) (f : Frame) : s.demanded f = { s with
    ti := { s.ti with slots := { s.ti.slots with demand := .received s.now .fresh (clampInt (-6000) 6000 (f.word 0).toInt) } }
    cs := { s.cs with lastSeq := some f.seq }
    fm := s.fm.remove (.stale .demand) } := by
  rw [State.demanded, State.storeTelegram_of_demand]; rfl

theorem State.acceptTelegram_of_repeat (hk : e.kind = .demand) (hseq : s.cs.lastSeq = some f.seq) : s.acceptTelegram e f = s.demanded f := by
  have hcs : (s.storeTelegram .demand f).cs = { s.cs with lastSeq := some f.seq } := by rw [← hseq]; simp
  rw [State.acceptTelegram_of_demand hk, State.demandAccepted, if_pos (by simpa using hseq), State.demanded, ← hcs]; rfl

theorem State.acceptTelegram_of_arrival (hk : e.kind = .demand) (hseq : s.cs.lastSeq ≠ some f.seq) :
    s.acceptTelegram e f = (s.demanded f).startRequest .demand := by
  rw [State.acceptTelegram_of_demand hk, State.demandAccepted, if_neg (by simpa using hseq), State.demanded]; simp

end

/-- R105: a slot written now is FRESH in a snapshot taken now. -/
theorem Slot.judge_now {α : Type} (lim : Option Consumed) (now : Nat) (x : α) : (Slot.received now .fresh x).judge lim now = .received now .fresh x := by
  cases lim with
  | none => rfl
  | some l => simp [Slot.judge, freshnessOfAge]

/-- R81: a DEMAND request takes the place of a pending start. -/
theorem elim_mergeTrigger_demand (held : Option Trigger) : held.elim .demand (mergeTrigger · .demand) = .demand := by
  cases held <;> rfl

/-- Settles O21: the telegram is stored, and an arrival makes a start request of the part that then stands. -/
theorem demandArrivalStartsComputation : Obligations.DemandArrivalStartsComputation := by
  intro s bits f e h hk hsleep
  have hu : NoSleepDue (s.demanded f) := by rw [State.demanded_eq]; exact hsleep
  have hwork : AtWork (s.demanded f) := by rw [State.demanded_eq]; exact h.heard.working
  have hflight : (s.demanded f).cs.inflight = s.cs.inflight := by rw [State.demanded_eq]
  have hsettled : exec (.telegramReceived bits) s = .next (s.acceptTelegram e f) := by
    rw [exec_accepted h, State.checkSleep_of_noSleepDue]
    by_cases hseq : s.cs.lastSeq = some f.seq
    · rw [State.acceptTelegram_of_repeat hk hseq]; exact hu
    · rw [State.acceptTelegram_of_arrival hk hseq]; exact hu.congr (by simp) (by simp)
  refine ⟨_, _, hsettled, State.demanded_eq s f, fun hseq => ?_, fun hseq hi => ?_, fun hseq hi => ?_⟩
  · rw [State.acceptTelegram_of_repeat hk hseq, State.demanded_eq, ← hseq]; exact ⟨rfl, rfl⟩
  · rw [State.acceptTelegram_of_arrival hk hseq, State.startRequest_of_idle _ hwork (hflight.trans hi)]
    refine ⟨⟨_, _, State.startComputation_starts _ _⟩, fun hm => ((FaultMon.mem_degrading_remove ..).1 hm).2 rfl,
      FaultMon.listed_remove_self _ _, fun c hc => ?_⟩
    cases hc
    have hslot : (s.demanded f).ti.slots.demand = .received s.now .fresh (clampInt (-6000) 6000 (f.word 0).toInt) := by rw [State.demanded_eq]
    have hnow : (s.demanded f).now = s.now := by rw [State.demanded_eq]
    show (((s.demanded f).ti.slots.demand.judge _ (s.demanded f).now)).live = _
    rw [hslot, hnow, Slot.judge_now]; rfl
  · rw [State.acceptTelegram_of_arrival hk hseq, State.startRequest_of_inflight _ hwork (by rw [hflight]; exact hi), elim_mergeTrigger_demand,
      State.demanded_eq]; rfl

end Sys2Proof.Machine
end

section
/-! PROOFS. The engine state that an accepted ENGINE telegram hands to the Negotiator (R135, R137 to R146). -/

namespace Sys2Proof.Machine

/-! ### What the Negotiator makes of an engine state, by the state it is in -/

section
variable {s : State} {x : EngineState}

/-- R137, R138, R139: cranking is followed. -/
theorem State.takeEngine_of_cranking (h : s.en.state = .stopped ∨ s.en.state = .startPending ∨ s.en.state = .unknown) :
    (s.takeEngine .cranking).en = { s.en with
      state := .cranking, observed := some .cranking, start := some (s.now + s.cfg.startTimeout)
      ack := if s.en.state = .startPending then none else s.en.ack } ∧
    (s.takeEngine .cranking).fm = s.fm := by
  unfold State.takeEngine
  rcases h with h | h | h <;> rw [h] <;> exact ⟨rfl, rfl⟩

/-- R142: RUNNING is entered with the count at 0, and the timer of the state left is stopped. -/
theorem State.takeEngine_of_running (h : s.en.state = .stopped ∨ s.en.state = .startPending ∨ s.en.state = .unknown ∨
      s.en.state = .cranking ∨ s.en.state = .inhibited) :
    (s.takeEngine .running).en = { s.en with
      state := .running, observed := some .running, failed := 0
      ack := if s.en.state = .startPending then none else s.en.ack
      start := if s.en.state = .cranking then none else s.en.start
      hold := if s.en.state = .inhibited then none else s.en.hold } ∧
    (s.takeEngine .running).fm =
      ((if s.en.state = .inhibited then s.fm.remove .engineInhibited else s.fm).remove .startFailed).remove .engineStall := by
  unfold State.takeEngine
  rcases h with h | h | h | h | h <;> rw [h] <;> exact ⟨rfl, rfl⟩

/-- R137, R138: any other state is STOPPED's. -/
theorem State.takeEngine_stops (h : s.en.state = .stopped ∨ s.en.state = .unknown) (hc : x ≠ .cranking) (hr : x ≠ .running) :
    (s.takeEngine x).en = { s.en with state := .stopped, observed := some x } ∧ (s.takeEngine x).fm = s.fm := by
  have hfollow (t : State) (other : State → State) : t.followEngine x other = other t := by
    cases x with
    | cranking => exact absurd rfl hc
    | running => exact absurd rfl hr
    | off | stopping | fault | inhibit => rfl
  unfold State.takeEngine
  rcases h with h | h <;> rw [h] <;> dsimp only <;> rw [hfollow]
  · rw [← h]; exact ⟨rfl, rfl⟩
  · exact ⟨rfl, rfl⟩

/-- R144: INHIBIT stops the start that is under way. -/
theorem State.takeEngine_inhibits (h : s.en.state = .startPending ∨ s.en.state = .cranking ∨ s.en.state = .withdrawing) :
    (s.takeEngine .inhibit).en = { s.en with
      state := .inhibited, observed := some .inhibit, ack := none, start := none, withdrawals := 0, hold := some (s.now + 2000) } ∧
    (s.takeEngine .inhibit).fm = s.fm.raise .engineInhibited s.now := by
  unfold State.takeEngine
  rcases h with h | h | h <;> rw [h] <;> exact ⟨rfl, rfl⟩

/-- R141: an engine that stops cranking has failed to start. -/
theorem State.takeEngine_fails (h : s.en.state = .cranking) (hx : x = .off ∨ x = .stopping ∨ x = .fault) :
    s.takeEngine x = ((s.observe x).stopStart).failedStart State.enterStopped := by
  unfold State.takeEngine
  rw [h]
  rcases hx with rfl | rfl | rfl <;> rfl

theorem State.takeEngine_fails_below (h : s.en.state = .cranking) (hx : x = .off ∨ x = .stopping ∨ x = .fault) (hf : s.en.failed + 1 < 3) :
    (s.takeEngine x).en = { s.en with state := .stopped, observed := some x, start := none, failed := s.en.failed + 1 } ∧
    (s.takeEngine x).fm = s.fm.raise .startFailed s.now := by
  rw [State.takeEngine_fails h hx, State.failedStart_of_lt (s := (s.observe x).stopStart) _ hf]; exact ⟨rfl, rfl⟩

/-- R142: the third failure. -/
theorem State.takeEngine_fails_third (h : s.en.state = .cranking) (hx : x = .off ∨ x = .stopping ∨ x = .fault) (hf : s.en.failed + 1 = 3) :
    (s.takeEngine x).en = { s.en with
      state := .lockedOut, observed := some x, failed := 3, ack := none, start := none, stop := none, hold := none } ∧
    (s.takeEngine x).fm = (s.fm.raise .startFailed s.now).raise .engineLockedOut s.now := by
  rw [State.takeEngine_fails h hx, State.failedStart_of_third (s := (s.observe x).stopStart) _ hf, ← hf]; exact ⟨rfl, rfl⟩

/-- R145: an engine that no longer runs has stalled. -/
theorem State.takeEngine_stalls (h : s.en.state = .running) (hx : x ≠ .running) :
    (s.takeEngine x).en = { s.en with state := .stopped, observed := some x } ∧
    (s.takeEngine x).fm = s.fm.raise .engineStall s.now := by
  simp only [State.takeEngine, h, if_neg hx]; exact ⟨rfl, rfl⟩

/-- R146: the stop asked for is reached. -/
theorem State.takeEngine_stopped (h : s.en.state = .stopPending) (hx : x = .off ∨ x = .fault ∨ x = .inhibit) :
    (s.takeEngine x).en = { s.en with state := .stopped, observed := some x, stop := none } ∧ (s.takeEngine x).fm = s.fm := by
  unfold State.takeEngine
  rw [h]
  rcases hx with rfl | rfl | rfl <;> exact ⟨rfl, rfl⟩

/-- The states and engine states of which the Negotiator makes no more than the state observed. -/
def NegState.JustObserves (n : NegState) (x : EngineState) : Prop :=
  n = .lockedOut ∨ (n = .withdrawing ∧ x ≠ .inhibit) ∨ (n = .inhibited ∧ x ≠ .running) ∨
    (n = .startPending ∧ (x = .off ∨ x = .stopping ∨ x = .fault)) ∨ (n = .cranking ∧ x = .cranking) ∨
    (n = .running ∧ x = .running) ∨ (n = .stopPending ∧ (x = .stopping ∨ x = .running ∨ x = .cranking))

theorem State.takeEngine_of_justObserves (h : s.en.state.JustObserves x) : s.takeEngine x = s.observe x := by
  unfold State.takeEngine
  rcases h with h | ⟨h, hx⟩ | ⟨h, hx⟩ | ⟨h, rfl | rfl | rfl⟩ | ⟨h, rfl⟩ | ⟨h, rfl⟩ | ⟨h, rfl | rfl | rfl⟩ <;> rw [h]
  · exact if_neg hx
  · exact if_neg hx
  all_goals rfl

end

/-! ### The faults of a hand-off (R146, R168) -/

section
variable {s : State} {x : EngineState} {change : FaultMon → FaultMon}

/-- R146: OFF removes STOP_LATE before what it makes the Negotiator change, or after it. -/
theorem State.handEngine_faults (h : ∀ m, ((s.withFm m).takeEngine x).fm = change m) : FaultsHanded x change s.fm (s.handEngine x).fm := by
  unfold FaultsHanded State.handEngine
  split
  · rcases s.aroundFault_fm (fun m => m.remove .stopLate) (fun t => t.takeEngine x) with hfm | hfm <;> rw [hfm]
    · exact .inl (h _)
    · exact .inr (congrArg (fun m => m.remove .stopLate) (h s.fm))
  · exact h s.fm

theorem FaultsHanded.eq_of_ne_off {a b : FaultMon} (h : FaultsHanded x change a b) (hx : x ≠ .off) : b = change a := by
  rwa [FaultsHanded, if_neg hx] at h

theorem FaultsHanded.mem_degrading {a b : FaultMon} {g : FaultId} (h : FaultsHanded x change a b) (hg : g ≠ .stopLate)
    (hchange : ∀ m, g ∈ (change m).degrading) : g ∈ b.degrading := by
  unfold FaultsHanded at h
  split at h
  · rcases h with h | h <;> rw [h]
    · exact hchange _
    · exact (FaultMon.mem_degrading_remove ..).2 ⟨hchange _, hg⟩
  · rw [h]; exact hchange _

end

/-! ### An echo reads nothing of the INHIBIT record (R111) -/

/-- The state with another INHIBIT record. -/
def State.withInhibit (s : State) (i : InhibitRecord) : State := s.withTi { s.ti with inhibit := i }

section
variable (s : State) (i : InhibitRecord) (c : Chan)

theorem State.formDeadline_withInhibit : (s.withInhibit i).formDeadline c = (s.formDeadline c).withInhibit i := rfl

theorem State.rebuildLost_withInhibit : (s.withInhibit i).rebuildLost c = (s.rebuildLost c).withInhibit i := by
  obtain ⟨⟩ := s
  unfold State.rebuildLost
  simp only [State.withInhibit, State.withTi]
  split <;> rfl

theorem State.expireOldest_withInhibit : (s.withInhibit i).expireOldest c = (s.expireOldest c).withInhibit i := by
  have hcu : (s.withInhibit i).cu = s.cu := rfl
  have hcfg : (s.withInhibit i).cfg = s.cfg := rfl
  have hrebuild (t u : State) (h : t = u.withInhibit i) : t.rebuildLost c = (u.rebuildLost c).withInhibit i :=
    h ▸ State.rebuildLost_withInhibit u i c
  unfold State.expireOldest
  simp only [hcu, hcfg]
  cases (s.cu.get c).hs with
  | idle | lost => rfl
  | active | recovery =>
    by_cases hr : s.cfg.nRetry ≤ (s.cu.get c).retry + 1
    · simp only [if_pos hr]; exact hrebuild _ _ rfl
    · simp only [if_neg hr]; rfl

theorem State.settleDeadline_withInhibit (n : Nat) : State.settleDeadline n (s.withInhibit i) c = (State.settleDeadline n s c).withInhibit i := by
  induction n generalizing s with
  | zero => rfl
  | succ n ih =>
    simp only [State.settleDeadline, State.formDeadline_withInhibit, State.expireOldest_withInhibit, ih]
    exact (apply_ite (fun t : State => t.withInhibit i) _ _ _).symm

theorem State.answerChannel_withInhibit (st : EchoStatus) (rest : List Sent) :
    (s.withInhibit i).answerChannel c st rest = (s.answerChannel c st rest).withInhibit i := by
  have hcu : (s.withInhibit i).cu = s.cu := rfl
  unfold State.answerChannel
  simp only [hcu]
  cases (s.cu.get c).hs with
  | idle | active | recovery => rfl
  | lost =>
    cases st with
    | clamped | refused => rfl
    | applied => dsimp only; split <;> rfl

theorem State.routeEcho_withInhibit (w : EchoWord) (a : Int) : (s.withInhibit i).routeEcho c w a = (s.routeEcho c w a).withInhibit i := by
  have hhand (t : State) (st : EchoStatus) (v : Int) : (t.withInhibit i).handOverride c st a v = (t.handOverride c st a v).withInhibit i := by
    unfold State.handOverride; split <;> rfl
  have hcu : (s.withInhibit i).cu = s.cu := rfl
  unfold State.routeEcho
  rw [hcu]
  split
  · rfl
  · rw [State.answerChannel_withInhibit, hhand]
    exact State.settleDeadline_withInhibit _ i c _

theorem State.echoTelegram_withInhibit (e : Consumed) (f : Frame) : (s.withInhibit i).echoTelegram e f = (s.echoTelegram e f).withInhibit i := by
  unfold State.echoTelegram
  split
  · exact State.routeEcho_withInhibit ..
  · rfl
  · rfl

end

/-! ### An accepted ENGINE telegram -/

section
variable {s : State} {f : Frame} {e : Consumed} (hk : e.kind = .engine)
include hk

/-- R104: the faults after the echo, which the look before it does not touch. -/
theorem State.echoed_fm : (s.echoed e f).fm = ((s.storeTelegram e.kind f).echoTelegram e f).fm := by
  have hlook : (s.storeTelegram e.kind f).lookTelegram e.kind f =
      (s.storeTelegram e.kind f).withInhibit ((s.storeTelegram e.kind f).ti.inhibit.look (engineStateOf (f.word 0))) := by rw [hk]; rfl
  rw [State.echoed, hlook, State.echoTelegram_withInhibit]; rfl

theorem State.echoed_fm_of_no_match (h : NoEchoMatch s f e) : (s.echoed e f).fm = s.fm.remove (.stale .engine) := by
  simp only [State.echoed_of_no_match h, State.lookTelegram_frame, hk]
  exact State.storeTelegram_fm_of_other _ _ _ (by decide)

theorem State.acceptTelegram_of_engine : (s.acceptTelegram e f).en = ((s.echoed e f).handTelegram .engine f).en ∧
    (s.acceptTelegram e f).fm = ((s.echoed e f).handTelegram .engine f).fm := by
  rw [State.acceptTelegram_eq, State.demandTelegram_of_other _ _ (by rw [hk]; decide), hk]; simp

/-- R110: an INHIBIT that only this telegram reports is not handed. -/
theorem State.acceptTelegram_unhanded (h : engineStateOf (f.word 0) = .inhibit ∧ s.ti.inhibit = .clear) :
    (s.acceptTelegram e f).en = s.en ∧ (s.acceptTelegram e f).fm = (s.echoed e f).fm := by
  have hnot : (s.echoed e f).ti.inhibit ≠ .confirmed := fun hc => (State.echoed_inhibit hk h.1).1 hc h.2
  have hhand : (s.echoed e f).handTelegram .engine f = s.echoed e f := if_pos ⟨h.1, hnot⟩
  obtain ⟨hen, hfm⟩ := State.acceptTelegram_of_engine (s := s) (f := f) hk
  rw [hen, hfm, hhand]; simp

/-- R110: every other state is handed, and an INHIBIT that was reported before. -/
theorem State.acceptTelegram_handed (h : ¬ (engineStateOf (f.word 0) = .inhibit ∧ s.ti.inhibit = .clear)) :
    (s.acceptTelegram e f).en = ((s.echoed e f).takeEngine (engineStateOf (f.word 0))).en ∧
    (s.acceptTelegram e f).fm = ((s.echoed e f).handEngine (engineStateOf (f.word 0))).fm := by
  have hhand : (s.echoed e f).handTelegram .engine f = (s.echoed e f).handEngine (engineStateOf (f.word 0)) :=
    if_neg fun ⟨hi, hnot⟩ => hnot ((State.echoed_inhibit hk hi).2 fun hc => h ⟨hi, hc⟩)
  obtain ⟨hen, hfm⟩ := State.acceptTelegram_of_engine (s := s) (f := f) hk
  rw [hen, hfm, hhand, State.handEngine_en]; exact ⟨rfl, rfl⟩

end

/-- Settles O24: an engine state handed is taken as the lemmas on `takeEngine` say, its faults as `handEngine_faults` says. -/
theorem engineStatesMoveTheNegotiator : Obligations.EngineStatesMoveTheNegotiator := by
  intro s bits f e h hacc hk hh
  obtain ⟨v, hv⟩ : ∃ v, v = s.echoed e f := ⟨_, rfl⟩
  have hen : v.en = s.en := by simp [hv]
  have hnow : v.now = s.now := by simp [hv]
  have hcfg : v.cfg = s.cfg := by simp [hv]
  refine ⟨_, _, v.fm, exec_accepted hacc, State.checkSleep_settles _, hv ▸ State.echoed_fm hk, fun hno => hv ▸ State.echoed_fm_of_no_match hk hno,
    fun hclear => ?_, fun hhanded => ?_⟩
  · rw [hv]; exact State.acceptTelegram_unhanded hk (hh ▸ hclear)
  · obtain ⟨huen, hufm⟩ := State.acceptTelegram_handed hk (hh ▸ hhanded)
    rw [← hv, ← hh] at huen hufm
    unfold State.faultLine
    rw [huen, hufm, ← hen, ← hnow, ← hcfg]
    refine ⟨?_, ?_, ?_, ?_, ?_, ?_, ?_, ?_⟩
    · rintro hs rfl
      exact ⟨(State.takeEngine_of_cranking hs).1,
        (State.handEngine_faults fun m => (State.takeEngine_of_cranking (s := v.withFm m) hs).2).eq_of_ne_off (by decide)⟩
    · rintro hs rfl
      exact ⟨(State.takeEngine_of_running hs).1,
        (State.handEngine_faults fun m => (State.takeEngine_of_running (s := v.withFm m) hs).2).eq_of_ne_off (by decide)⟩
    · exact fun hs hc hr => ⟨(State.takeEngine_stops hs hc hr).1,
        State.handEngine_faults fun m => (State.takeEngine_stops (s := v.withFm m) hs hc hr).2⟩
    · rintro hs rfl
      exact ⟨(State.takeEngine_inhibits hs).1,
        (State.handEngine_faults fun m => (State.takeEngine_inhibits (s := v.withFm m) hs).2).eq_of_ne_off (by decide)⟩
    · refine fun hs hx => ⟨fun hf => ⟨(State.takeEngine_fails_below hs hx hf).1,
        State.handEngine_faults fun m => (State.takeEngine_fails_below (s := v.withFm m) hs hx hf).2⟩, fun hf => ?_⟩
      have hfaults := State.handEngine_faults fun m => (State.takeEngine_fails_third (s := v.withFm m) hs hx hf).2
      exact ⟨(State.takeEngine_fails_third hs hx hf).1, hfaults,
        State.faultLine_of_mem (s := v.handEngine h) (hfaults.mem_degrading (g := .engineLockedOut) (by decide)
          fun m => (FaultMon.mem_degrading_raise ..).2 (.inr ⟨rfl, rfl⟩))⟩
    · exact fun hs hx => ⟨(State.takeEngine_stalls hs hx).1, State.handEngine_faults fun m => (State.takeEngine_stalls (s := v.withFm m) hs hx).2⟩
    · exact fun hs hx => ⟨(State.takeEngine_stopped hs hx).1, State.handEngine_faults fun m => (State.takeEngine_stopped (s := v.withFm m) hs hx).2⟩
    · intro hs
      have htake (m : FaultMon) : (v.withFm m).takeEngine h = (v.withFm m).observe h := State.takeEngine_of_justObserves hs
      exact ⟨congrArg State.en (htake v.fm), State.handEngine_faults fun m => congrArg State.fm (htake m)⟩

end Sys2Proof.Machine
end
